-- ==== Sys2Proof/Word.lean ====
section
/-! DEFINITION. The widths of the RC1600 (00_scope.md R7): 16-bit registers and instruction words,
8-bit addressable units, 4-bit register numbers, 8-bit I/O ports. -/

namespace Sys2Proof

/-- A register, an instruction word, an offset (R7). -/
abbrev Word := BitVec 16

/-- One addressable unit of memory (R7). -/
abbrev Byte := BitVec 8

/-- A register field: 0 to 13 are R0 to R13, 14 is BP, 15 is SP (10_state.md R10). -/
abbrev Reg := BitVec 4

/-- A port number of the I/O space (R7, 20_memory.md R53). -/
abbrev Port := BitVec 8

end Sys2Proof
end

