-- ==== Sys2Proof/Config.lean ====
section
/-! DEFINITION. What the RC1600's source leaves to the platform or the implementer (00_scope.md R8):
the parameters, as plain data, and the free values. -/

namespace Sys2Proof

/-- What is installed at a physical address (MEMMAP, R8). -/
inductive MemKind where
  | ram
  | rom
  | device (d : Nat)
  | absent
  deriving DecidableEq, Repr

/-- A run of `size` physical addresses from `base` on, all of one kind. -/
structure Region where
  base : Nat
  size : Nat
  kind : MemKind
  deriving DecidableEq, Repr

/-- STACK_BYTE_ORDER (R8, 20_memory.md R50). -/
inductive StackByteOrder where
  | asWritten
  | bigEndian
  deriving DecidableEq, Repr

/-- LOADB_UPPER (R8, 40_ram.md R102). -/
inductive LoadbUpper where
  | preserve
  | zero
  deriving DecidableEq, Repr

/-- SHIFT_BIG (R8, 41_alu.md R127). -/
inductive ShiftBig where
  | fullValue
  | mask4
  deriving DecidableEq, Repr

/-- RESERVED_FLAGS (R8, 10_state.md R18). -/
inductive ReservedFlags where
  | store
  | refuse
  deriving DecidableEq, Repr

/-- The parameters of R8 that the core's behaviour depends on. MEMMAP is a list of regions: the first
one that holds an address decides, and an address in none is RAM (log 3). -/
structure Config where
  memMap : List Region
  stackByteOrder : StackByteOrder
  loadbUpper : LoadbUpper
  shiftBig : ShiftBig
  reservedFlags : ReservedFlags
  deriving DecidableEq, Repr

/-- The defaults of R8. -/
def Config.standard : Config where
  memMap := []
  stackByteOrder := .asWritten
  loadbUpper := .preserve
  shiftBig := .fullValue
  reservedFlags := .store

/-- The 16-bit value that free value number `n` is: what a division by zero leaves (41_alu.md R117)
and what the environment answers beyond its script (20_memory.md R53). Nothing is known of it
(log 7). -/
opaque Config.freeWord (n : Nat) : Word

/-- The byte that free value number `n` is: what a read of an absent location answers (20_memory.md
R45). Nothing is known of it (log 4). -/
opaque Config.freeByte (n : Nat) : Byte

/-- The byte that MEM_INIT leaves unknown at physical address `a`: what RAM or ROM holds there until
it is written (70_reset_and_hazards.md R291). Nothing is known of it, and it is the same at every
read (log 2). -/
opaque Config.unknownByte (a : Nat) : Byte

end Sys2Proof
end

