-- ==== Sys2Proof/Syntax.lean ====
section
/-! DEFINITION. The instructions of the RC1600, one constructor for each of the 103 rows of
spec/opcode_table.json (30_encoding.md R82 to R86), as decoded: register fields, literals and the
9-bit displacement, never raw words. The arguments of a constructor stand in the order of the fields
in the word, the highest bits first (R71). -/

namespace Sys2Proof

/-- A literal operand as it is written in the instruction (30_encoding.md R78): the 4-bit field
itself, 0 to 14, or the extension word that the field value 15 announces. The two are kept apart
because they are different encodings, of different lengths. -/
inductive Lit where
  | short (n : BitVec 4)
  | ext (v : Word)
  deriving DecidableEq, Repr

/-- The instruction set. -/
inductive Instr where
  /-- LOAD [REG1 + LITERAL], REG3 (40_ram.md R101). -/
  | loadLit (r1 : Reg) (l : Lit) (r3 : Reg)
  /-- LOAD [REG1 + REG2], REG3 (40_ram.md R101). -/
  | loadReg (r1 : Reg) (r2 : Reg) (r3 : Reg)
  /-- LOAD.B [REG1 + LITERAL], REG3 (40_ram.md R102). -/
  | loadBLit (r1 : Reg) (l : Lit) (r3 : Reg)
  /-- LOAD.B [REG1 + REG2], REG3 (40_ram.md R102). -/
  | loadBReg (r1 : Reg) (r2 : Reg) (r3 : Reg)
  /-- STORE [REG1 + LITERAL], REG3 (40_ram.md R103). -/
  | storeLit (r1 : Reg) (l : Lit) (r3 : Reg)
  /-- STORE [REG1 + REG2], REG3 (40_ram.md R103). -/
  | storeReg (r1 : Reg) (r2 : Reg) (r3 : Reg)
  /-- STORE.B [REG1 + LITERAL], REG3 (40_ram.md R104). -/
  | storeBLit (r1 : Reg) (l : Lit) (r3 : Reg)
  /-- STORE.B [REG1 + REG2], REG3 (40_ram.md R104). -/
  | storeBReg (r1 : Reg) (r2 : Reg) (r3 : Reg)
  /-- ADD REG3, REG2 (41_alu.md R111). -/
  | addReg (r2 : Reg) (r3 : Reg)
  /-- ADD REG3, LITERAL (41_alu.md R111). -/
  | addLit (l : Lit) (r3 : Reg)
  /-- SUB REG3, REG2 (41_alu.md R113). -/
  | subReg (r2 : Reg) (r3 : Reg)
  /-- SUB REG3, LITERAL (41_alu.md R113). -/
  | subLit (l : Lit) (r3 : Reg)
  /-- ADDC REG3, REG2 (41_alu.md R112). -/
  | addc (r2 : Reg) (r3 : Reg)
  /-- SUBB REG3, REG2 (41_alu.md R114). -/
  | subbReg (r2 : Reg) (r3 : Reg)
  /-- SUBB REG3, LITERAL (41_alu.md R114). -/
  | subbLit (l : Lit) (r3 : Reg)
  /-- AND REG3, REG2 (41_alu.md R124). -/
  | and (r2 : Reg) (r3 : Reg)
  /-- OR REG3, REG2 (41_alu.md R125). -/
  | or (r2 : Reg) (r3 : Reg)
  /-- XOR REG3, REG2 (41_alu.md R126). -/
  | xor (r2 : Reg) (r3 : Reg)
  /-- SLL REG3, REG2 (41_alu.md R128). -/
  | sllReg (r2 : Reg) (r3 : Reg)
  /-- SLL REG3, LITERAL (41_alu.md R128). -/
  | sllLit (l : Lit) (r3 : Reg)
  /-- SRL REG3, REG2 (41_alu.md R129). -/
  | srlReg (r2 : Reg) (r3 : Reg)
  /-- SRL REG3, LITERAL (41_alu.md R129). -/
  | srlLit (l : Lit) (r3 : Reg)
  /-- SRA REG3, REG2 (41_alu.md R130). -/
  | sraReg (r2 : Reg) (r3 : Reg)
  /-- SRA REG3, LITERAL (41_alu.md R130). -/
  | sraLit (l : Lit) (r3 : Reg)
  /-- ROTL REG3, REG2 (41_alu.md R131). -/
  | rotlReg (r2 : Reg) (r3 : Reg)
  /-- ROTL REG3, LITERAL (41_alu.md R131). -/
  | rotlLit (l : Lit) (r3 : Reg)
  /-- ROTR REG3, REG2 (41_alu.md R132). -/
  | rotrReg (r2 : Reg) (r3 : Reg)
  /-- ROTR REG3, LITERAL (41_alu.md R132). -/
  | rotrLit (l : Lit) (r3 : Reg)
  /-- UMUL REG3, REG2 (41_alu.md R115). -/
  | umulReg (r2 : Reg) (r3 : Reg)
  /-- UMUL REG3, LITERAL (41_alu.md R115). -/
  | umulLit (l : Lit) (r3 : Reg)
  /-- UDIV REG3, REG2 (41_alu.md R118). -/
  | udivReg (r2 : Reg) (r3 : Reg)
  /-- UDIV REG3, LITERAL (41_alu.md R118). -/
  | udivLit (l : Lit) (r3 : Reg)
  /-- UMOD REG3, REG2 (41_alu.md R120). -/
  | umodReg (r2 : Reg) (r3 : Reg)
  /-- UMOD REG3, LITERAL (41_alu.md R120). -/
  | umodLit (l : Lit) (r3 : Reg)
  /-- MUL REG3, REG2 (41_alu.md R116). -/
  | mulReg (r2 : Reg) (r3 : Reg)
  /-- MUL REG3, LITERAL (41_alu.md R116). -/
  | mulLit (l : Lit) (r3 : Reg)
  /-- DIV REG3, REG2 (41_alu.md R119). -/
  | divReg (r2 : Reg) (r3 : Reg)
  /-- DIV REG3, LITERAL (41_alu.md R119). -/
  | divLit (l : Lit) (r3 : Reg)
  /-- MOD REG3, REG2 (41_alu.md R121). -/
  | modReg (r2 : Reg) (r3 : Reg)
  /-- MOD REG3, LITERAL (41_alu.md R121). -/
  | modLit (l : Lit) (r3 : Reg)
  /-- SWP REG3, REG2 (43_register.md R180). -/
  | swp (r2 : Reg) (r3 : Reg)
  /-- CPY REG3, REG2 (43_register.md R181). -/
  | cpy (r2 : Reg) (r3 : Reg)
  /-- SET REG3, LITERAL (43_register.md R182). -/
  | set (l : Lit) (r3 : Reg)
  /-- BEQ REG3, REG2 (42_branch.md R162). -/
  | beqReg (r2 : Reg) (r3 : Reg)
  /-- BEQ REG3, LITERAL (42_branch.md R162). -/
  | beqLit (l : Lit) (r3 : Reg)
  /-- BNEQ REG3, REG2 (42_branch.md R163). -/
  | bneqReg (r2 : Reg) (r3 : Reg)
  /-- BNEQ REG3, LITERAL (42_branch.md R163). -/
  | bneqLit (l : Lit) (r3 : Reg)
  /-- BG REG3, REG2 (42_branch.md R164). -/
  | bgReg (r2 : Reg) (r3 : Reg)
  /-- BG REG3, LITERAL (42_branch.md R164). -/
  | bgLit (l : Lit) (r3 : Reg)
  /-- BGE REG3, REG2 (42_branch.md R165). -/
  | bgeReg (r2 : Reg) (r3 : Reg)
  /-- BGE REG3, LITERAL (42_branch.md R165). -/
  | bgeLit (l : Lit) (r3 : Reg)
  /-- BUG REG3, REG2 (42_branch.md R166). -/
  | bugReg (r2 : Reg) (r3 : Reg)
  /-- BUG REG3, LITERAL (42_branch.md R166). -/
  | bugLit (l : Lit) (r3 : Reg)
  /-- BUGE REG3, REG2 (42_branch.md R167). -/
  | bugeReg (r2 : Reg) (r3 : Reg)
  /-- BUGE REG3, LITERAL (42_branch.md R167). -/
  | bugeLit (l : Lit) (r3 : Reg)
  /-- BBITS REG3, REG2 (42_branch.md R168). -/
  | bbits (r2 : Reg) (r3 : Reg)
  /-- BCLEAR REG3, REG2 (42_branch.md R169). -/
  | bclear (r2 : Reg) (r3 : Reg)
  /-- INP REG3, REG2 (48_io.md R230). -/
  | inpReg (r2 : Reg) (r3 : Reg)
  /-- INP REG3, LITERAL (48_io.md R230). -/
  | inpLit (l : Lit) (r3 : Reg)
  /-- OUT REG3, REG2 (48_io.md R231). -/
  | outReg (r2 : Reg) (r3 : Reg)
  /-- OUT REG3, LITERAL (48_io.md R231). -/
  | outLit (l : Lit) (r3 : Reg)
  /-- LJMP [REG3:REG2] (44_jump.md R194). -/
  | ljmp (r2 : Reg) (r3 : Reg)
  /-- LCALL [REG3:REG2] (44_jump.md R195). -/
  | lcall (r2 : Reg) (r3 : Reg)
  /-- JMP [REG3 + LITERAL] (44_jump.md R190). -/
  | jmpAbs (l : Lit) (r3 : Reg)
  /-- CALL [REG3 + LITERAL] (44_jump.md R191). -/
  | callAbs (l : Lit) (r3 : Reg)
  /-- NOT REG3 (41_alu.md R122). -/
  | not (r3 : Reg)
  /-- NEG REG3 (41_alu.md R123). -/
  | neg (r3 : Reg)
  /-- XCHG REG3 (43_register.md R183). -/
  | xchg (r3 : Reg)
  /-- SXTBD REG3 (43_register.md R184). -/
  | sxtbd (r3 : Reg)
  /-- PUSH REG3 (45_stack.md R205). -/
  | push (r3 : Reg)
  /-- POP REG3 (45_stack.md R206). -/
  | pop (r3 : Reg)
  /-- GETPC REG3 (46_special.md R212). -/
  | getpc (r3 : Reg)
  /-- SETFLAGS REG3 (46_special.md R213). -/
  | setflags (r3 : Reg)
  /-- GETFLAGS REG3 (46_special.md R214). -/
  | getflags (r3 : Reg)
  /-- SETY REG3 (46_special.md R215). -/
  | setyReg (r3 : Reg)
  /-- SETY LITERAL (46_special.md R215). -/
  | setyLit (l : Lit)
  /-- GETY REG3 (46_special.md R216). -/
  | gety (r3 : Reg)
  /-- INT REG3 (47_interrupt_instr.md R220). -/
  | intReg (r3 : Reg)
  /-- INT LITERAL (47_interrupt_instr.md R220). -/
  | intLit (l : Lit)
  /-- SETIA REG3 (47_interrupt_instr.md R221). -/
  | setiaReg (r3 : Reg)
  /-- SETIA LITERAL (47_interrupt_instr.md R221). -/
  | setiaLit (l : Lit)
  /-- GETIA REG3 (47_interrupt_instr.md R222). -/
  | getia (r3 : Reg)
  /-- SETCS REG3 (49_segment.md R235). -/
  | setcsReg (r3 : Reg)
  /-- SETCS LITERAL (49_segment.md R235). -/
  | setcsLit (l : Lit)
  /-- GETCS REG3 (49_segment.md R236). -/
  | getcs (r3 : Reg)
  /-- SETDS REG3 (49_segment.md R237). -/
  | setdsReg (r3 : Reg)
  /-- SETDS LITERAL (49_segment.md R237). -/
  | setdsLit (l : Lit)
  /-- GETDS REG3 (49_segment.md R238). -/
  | getds (r3 : Reg)
  /-- SETSS REG3 (49_segment.md R239). -/
  | setssReg (r3 : Reg)
  /-- SETSS LITERAL (49_segment.md R239). -/
  | setssLit (l : Lit)
  /-- GETSS REG3 (49_segment.md R240). -/
  | getss (r3 : Reg)
  /-- SETIS REG3 (49_segment.md R241). -/
  | setisReg (r3 : Reg)
  /-- SETIS LITERAL (49_segment.md R241). -/
  | setisLit (l : Lit)
  /-- GETIS REG3 (49_segment.md R242). -/
  | getis (r3 : Reg)
  /-- JMP [LITERAL], relative (44_jump.md R192). -/
  | jmpRel (off : BitVec 9)
  /-- CALL [LITERAL], relative (44_jump.md R193). -/
  | callRel (off : BitVec 9)
  /-- NOP (46_special.md R210). -/
  | nop
  /-- SLEEP (46_special.md R211). -/
  | sleep
  /-- RET (44_jump.md R196). -/
  | ret
  /-- LRET (44_jump.md R197). -/
  | lret
  /-- RFI (47_interrupt_instr.md R223). -/
  | rfi
  /-- BOVF (42_branch.md R170). -/
  | bovf
  /-- BOCF (42_branch.md R171). -/
  | bocf
  deriving DecidableEq, Repr

/-- The literal operand of an instruction of a literal form, none for every other form
(the rows marked "lit" of 30_encoding.md R82 to R84). -/
def Instr.lit? : Instr → Option Lit
  | .loadLit _ l _ => some l
  | .loadReg _ _ _ => none
  | .loadBLit _ l _ => some l
  | .loadBReg _ _ _ => none
  | .storeLit _ l _ => some l
  | .storeReg _ _ _ => none
  | .storeBLit _ l _ => some l
  | .storeBReg _ _ _ => none
  | .addReg _ _ => none
  | .addLit l _ => some l
  | .subReg _ _ => none
  | .subLit l _ => some l
  | .addc _ _ => none
  | .subbReg _ _ => none
  | .subbLit l _ => some l
  | .and _ _ => none
  | .or _ _ => none
  | .xor _ _ => none
  | .sllReg _ _ => none
  | .sllLit l _ => some l
  | .srlReg _ _ => none
  | .srlLit l _ => some l
  | .sraReg _ _ => none
  | .sraLit l _ => some l
  | .rotlReg _ _ => none
  | .rotlLit l _ => some l
  | .rotrReg _ _ => none
  | .rotrLit l _ => some l
  | .umulReg _ _ => none
  | .umulLit l _ => some l
  | .udivReg _ _ => none
  | .udivLit l _ => some l
  | .umodReg _ _ => none
  | .umodLit l _ => some l
  | .mulReg _ _ => none
  | .mulLit l _ => some l
  | .divReg _ _ => none
  | .divLit l _ => some l
  | .modReg _ _ => none
  | .modLit l _ => some l
  | .swp _ _ => none
  | .cpy _ _ => none
  | .set l _ => some l
  | .beqReg _ _ => none
  | .beqLit l _ => some l
  | .bneqReg _ _ => none
  | .bneqLit l _ => some l
  | .bgReg _ _ => none
  | .bgLit l _ => some l
  | .bgeReg _ _ => none
  | .bgeLit l _ => some l
  | .bugReg _ _ => none
  | .bugLit l _ => some l
  | .bugeReg _ _ => none
  | .bugeLit l _ => some l
  | .bbits _ _ => none
  | .bclear _ _ => none
  | .inpReg _ _ => none
  | .inpLit l _ => some l
  | .outReg _ _ => none
  | .outLit l _ => some l
  | .ljmp _ _ => none
  | .lcall _ _ => none
  | .jmpAbs l _ => some l
  | .callAbs l _ => some l
  | .not _ => none
  | .neg _ => none
  | .xchg _ => none
  | .sxtbd _ => none
  | .push _ => none
  | .pop _ => none
  | .getpc _ => none
  | .setflags _ => none
  | .getflags _ => none
  | .setyReg _ => none
  | .setyLit l => some l
  | .gety _ => none
  | .intReg _ => none
  | .intLit l => some l
  | .setiaReg _ => none
  | .setiaLit l => some l
  | .getia _ => none
  | .setcsReg _ => none
  | .setcsLit l => some l
  | .getcs _ => none
  | .setdsReg _ => none
  | .setdsLit l => some l
  | .getds _ => none
  | .setssReg _ => none
  | .setssLit l => some l
  | .getss _ => none
  | .setisReg _ => none
  | .setisLit l => some l
  | .getis _ => none
  | .jmpRel _ => none
  | .callRel _ => none
  | .nop => none
  | .sleep => none
  | .ret => none
  | .lret => none
  | .rfi => none
  | .bovf => none
  | .bocf => none

end Sys2Proof
end

