-- ==== Sys2Proof/WellFormed.lean ====
section
/-! DEFINITION. Which instructions the encoding admits. Every field has its encoded width by its
type; the one check left is that a 4-bit literal is not the escape value 15 (30_encoding.md R78). -/

namespace Sys2Proof

/-- A literal that the encoding admits: the field value 15 is the escape, never a literal (R78). -/
def Lit.wellFormed : Lit → Bool
  | .short n => n != 15#4
  | .ext _ => true

/-- An instruction that the encoding admits. -/
def Instr.wellFormed (i : Instr) : Bool :=
  match i.lit? with
  | none => true
  | some l => l.wellFormed

end Sys2Proof
end

