-- ==== Sys2Proof/Decode.lean ====
section
/-! DEFINITION. From bits to instructions and back: the byte order of words, the five formats, the
opcode map (30_encoding.md R70 to R87), the decoder, total on any bytes and rejecting by name, and
the encoder written from the same tables. -/

namespace Sys2Proof

/-- The byte of a word that is stored at the lower address (20_memory.md R44). -/
def hiByte (w : Word) : Byte := w.extractLsb' 8 8

/-- The byte of a word that is stored at the higher address (20_memory.md R44). -/
def loByte (w : Word) : Byte := w.extractLsb' 0 8

/-- The word whose most significant byte is `hi` (20_memory.md R44). -/
def joinBytes (hi lo : Byte) : Word := hi ++ lo

/-- Why bytes are not an instruction (30_encoding.md R87). -/
inductive DecodeError where
  /-- Fewer bytes than the instruction has. -/
  | truncated
  /-- A word of format P2 with an opcode in 0x75 to 0x7B: the source lists none. -/
  | unassignedP2 (w : Word)
  /-- A word of format P1 with an opcode in 0x21D to 0x2FF: the source lists none. -/
  | unassignedP1 (w : Word)
  /-- A word of format P1 with an opcode in 0x300 to 0x3FF: marked reserved. -/
  | reservedP1 (w : Word)
  /-- A word of format L9 with an opcode in 0x0A to 0x0F: the source lists none. -/
  | unassignedL9 (w : Word)
  /-- A word of format P0 below 0x0800 that is no instruction: the source lists none. -/
  | unassignedP0 (w : Word)
  /-- A word in 0x0800 to 0x0FFF: marked reserved. -/
  | reservedP0 (w : Word)
  deriving DecidableEq, Repr

/-- The literal of a 4-bit literal field whose instruction is followed by the word `x`
(R78): 15 is the escape to the extension word. -/
def litOf (f : BitVec 4) (x : Word) : Lit := if f = 15#4 then .ext x else .short f

/-- Format P3 (R72, R82): `op` is bits 15:12, which are 0x8 to 0xF. -/
def decodeP3 (op : Nat) (r1 f2 r3 : BitVec 4) (x : Word) : Instr :=
  match op with
  | 0x8 => .loadLit r1 (litOf f2 x) r3
  | 0x9 => .loadReg r1 f2 r3
  | 0xA => .loadBLit r1 (litOf f2 x) r3
  | 0xB => .loadBReg r1 f2 r3
  | 0xC => .storeLit r1 (litOf f2 x) r3
  | 0xD => .storeReg r1 f2 r3
  | 0xE => .storeBLit r1 (litOf f2 x) r3
  | _ => .storeBReg r1 f2 r3

/-- Format P2 (R73, R83): `op` is bits 15:8, `w` the whole word. -/
def decodeP2 (op : Nat) (f2 r3 : BitVec 4) (w x : Word) : Except DecodeError Instr :=
  match op with
  | 0x40 => .ok (.addReg f2 r3)
  | 0x41 => .ok (.addLit (litOf f2 x) r3)
  | 0x42 => .ok (.subReg f2 r3)
  | 0x43 => .ok (.subLit (litOf f2 x) r3)
  | 0x44 => .ok (.addc f2 r3)
  | 0x45 => .ok (.subbReg f2 r3)
  | 0x46 => .ok (.subbLit (litOf f2 x) r3)
  | 0x47 => .ok (.and f2 r3)
  | 0x48 => .ok (.or f2 r3)
  | 0x49 => .ok (.xor f2 r3)
  | 0x4A => .ok (.sllReg f2 r3)
  | 0x4B => .ok (.sllLit (litOf f2 x) r3)
  | 0x4C => .ok (.srlReg f2 r3)
  | 0x4D => .ok (.srlLit (litOf f2 x) r3)
  | 0x4E => .ok (.sraReg f2 r3)
  | 0x4F => .ok (.sraLit (litOf f2 x) r3)
  | 0x50 => .ok (.rotlReg f2 r3)
  | 0x51 => .ok (.rotlLit (litOf f2 x) r3)
  | 0x52 => .ok (.rotrReg f2 r3)
  | 0x53 => .ok (.rotrLit (litOf f2 x) r3)
  | 0x54 => .ok (.umulReg f2 r3)
  | 0x55 => .ok (.umulLit (litOf f2 x) r3)
  | 0x56 => .ok (.udivReg f2 r3)
  | 0x57 => .ok (.udivLit (litOf f2 x) r3)
  | 0x58 => .ok (.umodReg f2 r3)
  | 0x59 => .ok (.umodLit (litOf f2 x) r3)
  | 0x5A => .ok (.mulReg f2 r3)
  | 0x5B => .ok (.mulLit (litOf f2 x) r3)
  | 0x5C => .ok (.divReg f2 r3)
  | 0x5D => .ok (.divLit (litOf f2 x) r3)
  | 0x5E => .ok (.modReg f2 r3)
  | 0x5F => .ok (.modLit (litOf f2 x) r3)
  | 0x60 => .ok (.swp f2 r3)
  | 0x61 => .ok (.cpy f2 r3)
  | 0x62 => .ok (.set (litOf f2 x) r3)
  | 0x63 => .ok (.beqReg f2 r3)
  | 0x64 => .ok (.beqLit (litOf f2 x) r3)
  | 0x65 => .ok (.bneqReg f2 r3)
  | 0x66 => .ok (.bneqLit (litOf f2 x) r3)
  | 0x67 => .ok (.bgReg f2 r3)
  | 0x68 => .ok (.bgLit (litOf f2 x) r3)
  | 0x69 => .ok (.bgeReg f2 r3)
  | 0x6A => .ok (.bgeLit (litOf f2 x) r3)
  | 0x6B => .ok (.bugReg f2 r3)
  | 0x6C => .ok (.bugLit (litOf f2 x) r3)
  | 0x6D => .ok (.bugeReg f2 r3)
  | 0x6E => .ok (.bugeLit (litOf f2 x) r3)
  | 0x6F => .ok (.bbits f2 r3)
  | 0x70 => .ok (.bclear f2 r3)
  | 0x71 => .ok (.inpReg f2 r3)
  | 0x72 => .ok (.inpLit (litOf f2 x) r3)
  | 0x73 => .ok (.outReg f2 r3)
  | 0x74 => .ok (.outLit (litOf f2 x) r3)
  | 0x7C => .ok (.ljmp f2 r3)
  | 0x7D => .ok (.lcall f2 r3)
  | 0x7E => .ok (.jmpAbs (litOf f2 x) r3)
  | 0x7F => .ok (.callAbs (litOf f2 x) r3)
  | _ => .error (.unassignedP2 w)

/-- Format P1 (R74, R84): `op` is bits 15:4, `w` the whole word; bits 3:0 are a register or a
literal. -/
def decodeP1 (op : Nat) (f3 : BitVec 4) (w x : Word) : Except DecodeError Instr :=
  match op with
  | 0x200 => .ok (.not f3)
  | 0x201 => .ok (.neg f3)
  | 0x202 => .ok (.xchg f3)
  | 0x203 => .ok (.sxtbd f3)
  | 0x204 => .ok (.push f3)
  | 0x205 => .ok (.pop f3)
  | 0x206 => .ok (.getpc f3)
  | 0x207 => .ok (.setflags f3)
  | 0x208 => .ok (.getflags f3)
  | 0x209 => .ok (.setyReg f3)
  | 0x20A => .ok (.setyLit (litOf f3 x))
  | 0x20B => .ok (.gety f3)
  | 0x20C => .ok (.intReg f3)
  | 0x20D => .ok (.intLit (litOf f3 x))
  | 0x20E => .ok (.setiaReg f3)
  | 0x20F => .ok (.setiaLit (litOf f3 x))
  | 0x210 => .ok (.getia f3)
  | 0x211 => .ok (.setcsReg f3)
  | 0x212 => .ok (.setcsLit (litOf f3 x))
  | 0x213 => .ok (.getcs f3)
  | 0x214 => .ok (.setdsReg f3)
  | 0x215 => .ok (.setdsLit (litOf f3 x))
  | 0x216 => .ok (.getds f3)
  | 0x217 => .ok (.setssReg f3)
  | 0x218 => .ok (.setssLit (litOf f3 x))
  | 0x219 => .ok (.getss f3)
  | 0x21A => .ok (.setisReg f3)
  | 0x21B => .ok (.setisLit (litOf f3 x))
  | 0x21C => .ok (.getis f3)
  | _ => if op < 0x300 then .error (.unassignedP1 w) else .error (.reservedP1 w)

/-- Format L9 (R75, R85): `op` is bits 15:9, `w` the whole word. -/
def decodeL9 (op : Nat) (l9 : BitVec 9) (w : Word) : Except DecodeError Instr :=
  match op with
  | 0x08 => .ok (.jmpRel l9)
  | 0x09 => .ok (.callRel l9)
  | _ => .error (.unassignedL9 w)

/-- Format P0 (R76, R86): the whole word selects the instruction. -/
def decodeP0 (w : Word) : Except DecodeError Instr :=
  match w.toNat with
  | 0x0000 => .ok .nop
  | 0x0001 => .ok .sleep
  | 0x0002 => .ok .ret
  | 0x0003 => .ok .lret
  | 0x0004 => .ok .rfi
  | 0x0008 => .ok .bovf
  | 0x0009 => .ok .bocf
  | n => if n < 0x0800 then .error (.unassignedP0 w) else .error (.reservedP0 w)

/-- The instruction whose first word is `w`, and whose second word, if it has one, is `x`: the
leading bits of `w` choose the format (R77). -/
def decodeWords (w x : Word) : Except DecodeError Instr :=
  let r3 := w.extractLsb' 0 4
  let f2 := w.extractLsb' 4 4
  match (w.extractLsb' 12 4).toNat with
  | 0 => decodeP0 w
  | 1 => decodeL9 (w.extractLsb' 9 7).toNat (w.extractLsb' 0 9) w
  | 2 | 3 => decodeP1 (w.extractLsb' 4 12).toNat r3 w x
  | 4 | 5 | 6 | 7 => decodeP2 (w.extractLsb' 8 8).toNat f2 r3 w x
  | op => .ok (decodeP3 op (w.extractLsb' 8 4) f2 r3 x)

/-- The length of an instruction in words (R81): two exactly for a literal form whose literal is in
the extension word. -/
def Instr.words (i : Instr) : Nat :=
  match i.lit? with
  | some (.ext _) => 2
  | _ => 1

/-- The conditional instructions (42_branch.md R161): those a skip passes over and goes on from. -/
def Instr.isConditional : Instr → Bool
  | .loadLit _ _ _ => false
  | .loadReg _ _ _ => false
  | .loadBLit _ _ _ => false
  | .loadBReg _ _ _ => false
  | .storeLit _ _ _ => false
  | .storeReg _ _ _ => false
  | .storeBLit _ _ _ => false
  | .storeBReg _ _ _ => false
  | .addReg _ _ => false
  | .addLit _ _ => false
  | .subReg _ _ => false
  | .subLit _ _ => false
  | .addc _ _ => false
  | .subbReg _ _ => false
  | .subbLit _ _ => false
  | .and _ _ => false
  | .or _ _ => false
  | .xor _ _ => false
  | .sllReg _ _ => false
  | .sllLit _ _ => false
  | .srlReg _ _ => false
  | .srlLit _ _ => false
  | .sraReg _ _ => false
  | .sraLit _ _ => false
  | .rotlReg _ _ => false
  | .rotlLit _ _ => false
  | .rotrReg _ _ => false
  | .rotrLit _ _ => false
  | .umulReg _ _ => false
  | .umulLit _ _ => false
  | .udivReg _ _ => false
  | .udivLit _ _ => false
  | .umodReg _ _ => false
  | .umodLit _ _ => false
  | .mulReg _ _ => false
  | .mulLit _ _ => false
  | .divReg _ _ => false
  | .divLit _ _ => false
  | .modReg _ _ => false
  | .modLit _ _ => false
  | .swp _ _ => false
  | .cpy _ _ => false
  | .set _ _ => false
  | .beqReg _ _ => true
  | .beqLit _ _ => true
  | .bneqReg _ _ => true
  | .bneqLit _ _ => true
  | .bgReg _ _ => true
  | .bgLit _ _ => true
  | .bgeReg _ _ => true
  | .bgeLit _ _ => true
  | .bugReg _ _ => true
  | .bugLit _ _ => true
  | .bugeReg _ _ => true
  | .bugeLit _ _ => true
  | .bbits _ _ => true
  | .bclear _ _ => true
  | .inpReg _ _ => false
  | .inpLit _ _ => false
  | .outReg _ _ => false
  | .outLit _ _ => false
  | .ljmp _ _ => false
  | .lcall _ _ => false
  | .jmpAbs _ _ => false
  | .callAbs _ _ => false
  | .not _ => false
  | .neg _ => false
  | .xchg _ => false
  | .sxtbd _ => false
  | .push _ => false
  | .pop _ => false
  | .getpc _ => false
  | .setflags _ => false
  | .getflags _ => false
  | .setyReg _ => false
  | .setyLit _ => false
  | .gety _ => false
  | .intReg _ => false
  | .intLit _ => false
  | .setiaReg _ => false
  | .setiaLit _ => false
  | .getia _ => false
  | .setcsReg _ => false
  | .setcsLit _ => false
  | .getcs _ => false
  | .setdsReg _ => false
  | .setdsLit _ => false
  | .getds _ => false
  | .setssReg _ => false
  | .setssLit _ => false
  | .getss _ => false
  | .setisReg _ => false
  | .setisLit _ => false
  | .getis _ => false
  | .jmpRel _ => false
  | .callRel _ => false
  | .nop => false
  | .sleep => false
  | .ret => false
  | .lret => false
  | .rfi => false
  | .bovf => true
  | .bocf => true

/-- The instruction that a list of bytes begins with, and the bytes after it. Words are big-endian
(R70); the extension word is looked for only when the first word announces it (R78). -/
def decode : List Byte → Except DecodeError (Instr × List Byte)
  | b0 :: b1 :: rest =>
    match decodeWords (joinBytes b0 b1) 0#16 with
    | .error e => .error e
    | .ok i =>
      if i.words = 1 then .ok (i, rest)
      else
        match rest with
        | b2 :: b3 :: rest' =>
          match decodeWords (joinBytes b0 b1) (joinBytes b2 b3) with
          | .error e => .error e
          | .ok j => .ok (j, rest')
        | _ => .error .truncated
  | _ => .error .truncated

/-- The instruction the decoder reads from an instruction of `nbits` bits `w`, bit 0 the least
significant bit of the first word, the second word in bits 31:16, every bit from `nbits` on zero. -/
def decodeTableWord (nbits w : Nat) : Option Instr :=
  let v := w % 2 ^ nbits
  let w0 := BitVec.ofNat 16 v
  let w1 := BitVec.ofNat 16 (v / 2 ^ 16)
  match decode [hiByte w0, loByte w0, hiByte w1, loByte w1] with
  | .ok (i, _) => some i
  | .error _ => none

/-! ## The encoder -/

/-- The 4-bit field that a literal is encoded in (R78). -/
def Lit.field : Lit → BitVec 4
  | .short n => n
  | .ext _ => 15#4

/-- The extension word of a literal, if it has one (R78). -/
def Lit.tail : Lit → List Word
  | .short _ => []
  | .ext v => [v]

/-- A word of format P3 (R72). -/
def wordP3 (op r1 f2 r3 : BitVec 4) : Word := op ++ r1 ++ f2 ++ r3

/-- A word of format P2 (R73). -/
def wordP2 (op : BitVec 8) (f2 r3 : BitVec 4) : Word := op ++ f2 ++ r3

/-- A word of format P1 (R74). -/
def wordP1 (op : BitVec 12) (f3 : BitVec 4) : Word := op ++ f3

/-- A word of format L9 (R75). -/
def wordL9 (op : BitVec 7) (l9 : BitVec 9) : Word := op ++ l9

/-- The words of an instruction, the first word first (R70, R82 to R86). -/
def encode : Instr → List Word
  | .loadLit r1 l r3 => wordP3 0x8#4 r1 l.field r3 :: l.tail
  | .loadReg r1 r2 r3 => [wordP3 0x9#4 r1 r2 r3]
  | .loadBLit r1 l r3 => wordP3 0xA#4 r1 l.field r3 :: l.tail
  | .loadBReg r1 r2 r3 => [wordP3 0xB#4 r1 r2 r3]
  | .storeLit r1 l r3 => wordP3 0xC#4 r1 l.field r3 :: l.tail
  | .storeReg r1 r2 r3 => [wordP3 0xD#4 r1 r2 r3]
  | .storeBLit r1 l r3 => wordP3 0xE#4 r1 l.field r3 :: l.tail
  | .storeBReg r1 r2 r3 => [wordP3 0xF#4 r1 r2 r3]
  | .addReg r2 r3 => [wordP2 0x40#8 r2 r3]
  | .addLit l r3 => wordP2 0x41#8 l.field r3 :: l.tail
  | .subReg r2 r3 => [wordP2 0x42#8 r2 r3]
  | .subLit l r3 => wordP2 0x43#8 l.field r3 :: l.tail
  | .addc r2 r3 => [wordP2 0x44#8 r2 r3]
  | .subbReg r2 r3 => [wordP2 0x45#8 r2 r3]
  | .subbLit l r3 => wordP2 0x46#8 l.field r3 :: l.tail
  | .and r2 r3 => [wordP2 0x47#8 r2 r3]
  | .or r2 r3 => [wordP2 0x48#8 r2 r3]
  | .xor r2 r3 => [wordP2 0x49#8 r2 r3]
  | .sllReg r2 r3 => [wordP2 0x4A#8 r2 r3]
  | .sllLit l r3 => wordP2 0x4B#8 l.field r3 :: l.tail
  | .srlReg r2 r3 => [wordP2 0x4C#8 r2 r3]
  | .srlLit l r3 => wordP2 0x4D#8 l.field r3 :: l.tail
  | .sraReg r2 r3 => [wordP2 0x4E#8 r2 r3]
  | .sraLit l r3 => wordP2 0x4F#8 l.field r3 :: l.tail
  | .rotlReg r2 r3 => [wordP2 0x50#8 r2 r3]
  | .rotlLit l r3 => wordP2 0x51#8 l.field r3 :: l.tail
  | .rotrReg r2 r3 => [wordP2 0x52#8 r2 r3]
  | .rotrLit l r3 => wordP2 0x53#8 l.field r3 :: l.tail
  | .umulReg r2 r3 => [wordP2 0x54#8 r2 r3]
  | .umulLit l r3 => wordP2 0x55#8 l.field r3 :: l.tail
  | .udivReg r2 r3 => [wordP2 0x56#8 r2 r3]
  | .udivLit l r3 => wordP2 0x57#8 l.field r3 :: l.tail
  | .umodReg r2 r3 => [wordP2 0x58#8 r2 r3]
  | .umodLit l r3 => wordP2 0x59#8 l.field r3 :: l.tail
  | .mulReg r2 r3 => [wordP2 0x5A#8 r2 r3]
  | .mulLit l r3 => wordP2 0x5B#8 l.field r3 :: l.tail
  | .divReg r2 r3 => [wordP2 0x5C#8 r2 r3]
  | .divLit l r3 => wordP2 0x5D#8 l.field r3 :: l.tail
  | .modReg r2 r3 => [wordP2 0x5E#8 r2 r3]
  | .modLit l r3 => wordP2 0x5F#8 l.field r3 :: l.tail
  | .swp r2 r3 => [wordP2 0x60#8 r2 r3]
  | .cpy r2 r3 => [wordP2 0x61#8 r2 r3]
  | .set l r3 => wordP2 0x62#8 l.field r3 :: l.tail
  | .beqReg r2 r3 => [wordP2 0x63#8 r2 r3]
  | .beqLit l r3 => wordP2 0x64#8 l.field r3 :: l.tail
  | .bneqReg r2 r3 => [wordP2 0x65#8 r2 r3]
  | .bneqLit l r3 => wordP2 0x66#8 l.field r3 :: l.tail
  | .bgReg r2 r3 => [wordP2 0x67#8 r2 r3]
  | .bgLit l r3 => wordP2 0x68#8 l.field r3 :: l.tail
  | .bgeReg r2 r3 => [wordP2 0x69#8 r2 r3]
  | .bgeLit l r3 => wordP2 0x6A#8 l.field r3 :: l.tail
  | .bugReg r2 r3 => [wordP2 0x6B#8 r2 r3]
  | .bugLit l r3 => wordP2 0x6C#8 l.field r3 :: l.tail
  | .bugeReg r2 r3 => [wordP2 0x6D#8 r2 r3]
  | .bugeLit l r3 => wordP2 0x6E#8 l.field r3 :: l.tail
  | .bbits r2 r3 => [wordP2 0x6F#8 r2 r3]
  | .bclear r2 r3 => [wordP2 0x70#8 r2 r3]
  | .inpReg r2 r3 => [wordP2 0x71#8 r2 r3]
  | .inpLit l r3 => wordP2 0x72#8 l.field r3 :: l.tail
  | .outReg r2 r3 => [wordP2 0x73#8 r2 r3]
  | .outLit l r3 => wordP2 0x74#8 l.field r3 :: l.tail
  | .ljmp r2 r3 => [wordP2 0x7C#8 r2 r3]
  | .lcall r2 r3 => [wordP2 0x7D#8 r2 r3]
  | .jmpAbs l r3 => wordP2 0x7E#8 l.field r3 :: l.tail
  | .callAbs l r3 => wordP2 0x7F#8 l.field r3 :: l.tail
  | .not r3 => [wordP1 0x200#12 r3]
  | .neg r3 => [wordP1 0x201#12 r3]
  | .xchg r3 => [wordP1 0x202#12 r3]
  | .sxtbd r3 => [wordP1 0x203#12 r3]
  | .push r3 => [wordP1 0x204#12 r3]
  | .pop r3 => [wordP1 0x205#12 r3]
  | .getpc r3 => [wordP1 0x206#12 r3]
  | .setflags r3 => [wordP1 0x207#12 r3]
  | .getflags r3 => [wordP1 0x208#12 r3]
  | .setyReg r3 => [wordP1 0x209#12 r3]
  | .setyLit l => wordP1 0x20A#12 l.field :: l.tail
  | .gety r3 => [wordP1 0x20B#12 r3]
  | .intReg r3 => [wordP1 0x20C#12 r3]
  | .intLit l => wordP1 0x20D#12 l.field :: l.tail
  | .setiaReg r3 => [wordP1 0x20E#12 r3]
  | .setiaLit l => wordP1 0x20F#12 l.field :: l.tail
  | .getia r3 => [wordP1 0x210#12 r3]
  | .setcsReg r3 => [wordP1 0x211#12 r3]
  | .setcsLit l => wordP1 0x212#12 l.field :: l.tail
  | .getcs r3 => [wordP1 0x213#12 r3]
  | .setdsReg r3 => [wordP1 0x214#12 r3]
  | .setdsLit l => wordP1 0x215#12 l.field :: l.tail
  | .getds r3 => [wordP1 0x216#12 r3]
  | .setssReg r3 => [wordP1 0x217#12 r3]
  | .setssLit l => wordP1 0x218#12 l.field :: l.tail
  | .getss r3 => [wordP1 0x219#12 r3]
  | .setisReg r3 => [wordP1 0x21A#12 r3]
  | .setisLit l => wordP1 0x21B#12 l.field :: l.tail
  | .getis r3 => [wordP1 0x21C#12 r3]
  | .jmpRel off => [wordL9 0x8#7 off]
  | .callRel off => [wordL9 0x9#7 off]
  | .nop => [0x0000#16]
  | .sleep => [0x0001#16]
  | .ret => [0x0002#16]
  | .lret => [0x0003#16]
  | .rfi => [0x0004#16]
  | .bovf => [0x0008#16]
  | .bocf => [0x0009#16]

/-- The bytes of words in memory order, big-endian (R70). -/
def bytesOf : List Word → List Byte
  | [] => []
  | w :: ws => hiByte w :: loByte w :: bytesOf ws

/-- The bytes of an instruction in memory order. -/
def encodeBytes (i : Instr) : List Byte := bytesOf (encode i)

end Sys2Proof
end

