-- ==== Sys2Proof/Machine/State.lean ====
section
/-! DEFINITION. The state of the RC1600 (10_state.md R10 to R27), the reasons a step can stop, and the
state after reset. -/

namespace Sys2Proof.Machine

/-- The known bytes of the memory space, by physical address, addresses strictly rising
(`Memory.wf`): those an image has placed or a store has written. A byte that is not listed is unknown
(`Memory.unlisted`). -/
abbrev Memory := List Host.Cell

/-- One access to a device, as the bus sees it (20_memory.md R45, R46, R53). -/
inductive BusEvent where
  /-- `IoRead(port)` was performed and answered `v`. -/
  | ioRead (port : Port) (v : Word)
  /-- `IoWrite(port, v)` was performed. -/
  | ioWrite (port : Port) (v : Word)
  /-- The location `addr` of device `d` was read and answered `v`. -/
  | devRead (d : Nat) (addr : Nat) (v : Byte)
  /-- The byte `v` was written to the location `addr` of device `d`. -/
  | devWrite (d : Nat) (addr : Nat) (v : Byte)
  deriving DecidableEq, Repr

/-- The state of the machine. The fields down to `mem` are the spec's; the last six are the model's
own (INVENTORY.md, State). -/
structure State where
  /-- R0 to R13, BP (number 14) and SP (number 15): R10. -/
  regs : Vector Word 16
  /-- The program counter, an offset in CS: R14. -/
  pc : Word
  /-- The multiplication/division register: R16. -/
  y : Word
  /-- FLAGS, all sixteen bits, reserved ones included: R17. -/
  flags : Word
  /-- The interrupt address and global interrupt enable: R20. -/
  ia : Word
  /-- The code segment: R21. -/
  cs : Word
  /-- The data segment: R21. -/
  ds : Word
  /-- The stack segment: R21. -/
  ss : Word
  /-- The interrupt segment: R21. -/
  is : Word
  /-- The core sleeps: R23. -/
  asleep : Bool
  /-- The IACK output is high: R24. -/
  iack : Bool
  /-- The memory space: 20_memory.md R40. -/
  mem : Memory
  /-- The parameters of the implementation (00_scope.md R8), which no step writes. -/
  cfg : Config
  /-- The answers of the environment to the device reads to come, in order (log 5). -/
  devIn : List Word
  /-- The samples of the INT line to come, one for each step that ends an instruction or finds the core
  asleep: the value on the data bus where the line is asserted. Beyond the list it is not asserted
  (log 6). -/
  hwInt : List (Option Word)
  /-- The device accesses performed, the newest first (log 5). -/
  busLog : List BusEvent
  /-- How many free values have been taken (log 7). -/
  draws : Nat
  /-- The skip of a failed test is on its way from one step to the next (log 12): it has passed as many
  instructions as one step passes, and PC stands at the next one. Never set between instructions (R26). -/
  skipping : Bool
  deriving DecidableEq, Repr

/-- The machine stops for good: nothing in the spec does that, so there is no fault. No memory access
faults (20_memory.md R56), and an error of an instruction is an interrupt request (60_exceptions.md
R257). -/
inductive Fault where
  deriving DecidableEq, Repr

/-- The model gives no meaning. -/
inductive Refusal where
  /-- An instruction that `exec` does not model yet. Safe. -/
  | notModelled (mnemonic : String)
  /-- Raised when the first word of the instruction to be executed or skipped is reserved or
  unassigned: the spec gives it no meaning (30_encoding.md R87). Safe. -/
  | reservedWord (e : DecodeError)
  /-- Raised by a fetch at PC = 0xFFFF: the spec gives it no meaning (20_memory.md R49). Safe. -/
  | straddlingFetch
  /-- Raised by SETFLAGS when the parameter RESERVED_FLAGS is `refuse` and the operand has a reserved
  bit set (10_state.md R18, 46_special.md R213). Safe. -/
  | reservedFlags
  deriving DecidableEq, Repr

/-- The machine after boot or reset (R27, 70_reset_and_hazards.md R290): every register 0, awake, IACK
low. No byte of memory is known (R291, log 2), the parameters have the defaults of 00_scope.md R8
(log 1), no device answer and no interrupt is scripted (log 5, log 6), and no skip is on its way
(log 12). -/
def State.reset : State where
  regs := Vector.replicate 16 0
  pc := 0
  y := 0
  flags := 0
  ia := 0
  cs := 0
  ds := 0
  ss := 0
  is := 0
  asleep := false
  iack := false
  mem := []
  cfg := Config.standard
  devIn := []
  hwInt := []
  busLog := []
  draws := 0
  skipping := false

end Sys2Proof.Machine
end

