-- ==== Sys2Proof/Machine/Flags.lean ====
section
/-! DEFINITION. The bits of FLAGS (10_state.md R17, R18) and every flag computation of the ALU
(41_alu.md R110, R127 to R130). -/

namespace Sys2Proof.Machine

/-- The named bits of FLAGS. -/
inductive Flag where
  | cf | ovf | de | intf | tss | toe | tde
  deriving DecidableEq, Repr

/-- The place of a flag in FLAGS (R17). -/
def Flag.bit : Flag → Nat
  | .cf => 0
  | .ovf => 1
  | .de => 2
  | .intf => 3
  | .tss => 8
  | .toe => 9
  | .tde => 10

/-- The word with bit `k` set to `b` and every other bit kept. -/
def withBit (w : Word) (k : Nat) (b : Bool) : Word :=
  if b then w ||| (1#16 <<< k) else w &&& ~~~(1#16 <<< k)

/-- One flag of FLAGS. -/
def State.flag (s : State) (f : Flag) : Bool := s.flags.getLsbD f.bit

/-- Writes FLAGS whole. -/
def State.setFlags (s : State) (v : Word) : State := { s with flags := v }

/-- Writes one flag and keeps the other fifteen bits. -/
def State.setFlag (s : State) (f : Flag) (b : Bool) : State := s.setFlags (withBit s.flags f.bit b)

/-- The reserved bits 15:11 and 7:4 (R17). -/
def reservedFlagsMask : Word := 0xF8F0#16

/-- An integer that a 16-bit two's-complement number can hold (00_scope.md R9). -/
def fitsSigned (v : Int) : Bool := decide (-32768 ≤ v ∧ v ≤ 32767)

/-- A result with its carry and overflow. -/
structure ArithResult where
  value : Word
  carry : Bool
  overflow : Bool
  deriving DecidableEq, Repr

/-- `AddCore(a, b, cin)` (R110). -/
def addCore (a b : Word) (cin : Bool) : ArithResult :=
  let t := a.toNat + b.toNat + cin.toNat
  { value := BitVec.ofNat 16 t
    carry := decide (0xFFFF < t)
    overflow := !fitsSigned (a.toInt + b.toInt + cin.toInt) }

/-- `SubCore(a, b, bin)` (R110): the carry is the borrow. -/
def subCore (a b : Word) (bin : Bool) : ArithResult :=
  let t : Int := (a.toNat : Int) - b.toNat - bin.toInt
  { value := BitVec.ofInt 16 t
    carry := decide (t < 0)
    overflow := !fitsSigned (a.toInt - b.toInt - bin.toInt) }

/-- The carry of SLL by `n` (R128): bit 16 of the unbounded `u(a) * 2^n`. -/
def sllCarry (a : Word) (n : Nat) : Bool := decide (1 ≤ n ∧ n ≤ 16) && a.getLsbD (16 - n)

/-- The carry of SRL by `n` (R129). -/
def srlCarry (a : Word) (n : Nat) : Bool := decide (1 ≤ n ∧ n ≤ 16) && a.getLsbD (n - 1)

/-- The carry of SRA by `n` (R130): beyond 16 places, a copy of the sign. -/
def sraCarry (a : Word) (n : Nat) : Bool :=
  if n = 0 then false else if n ≤ 16 then a.getLsbD (n - 1) else a.getLsbD 15

end Sys2Proof.Machine
end

