-- ==== Sys2Proof/Machine/Ops.lean ====
section
/-! DEFINITION. The named operations over memory, registers, devices and the stack (20_memory.md), the
advance of PC (10_state.md R15), taking an interrupt and returning from one (60_exceptions.md R254,
R260, 47_interrupt_instr.md R223), and the instruction boundary (R276). -/

namespace Sys2Proof.Machine

/-! ## Memory contents -/

/-- What a location holds that memory does not list: an unknown byte, neither zero nor any other
number (70_reset_and_hazards.md R291, log 2). -/
def Memory.unlisted (k : Nat) : Byte := Config.unknownByte k

/-- The byte at a physical address, if it is known. -/
def Memory.lookup : Memory → Nat → Option Byte
  | [], _ => none
  | (a, b) :: m, k => if a = k then some b else Memory.lookup m k

/-- The byte that memory holds at a physical address: the byte last written there, or the byte
MEM_INIT gave it (20_memory.md R45). -/
def Memory.read (m : Memory) (k : Nat) : Byte := (m.lookup k).getD (Memory.unlisted k)

/-- Memory with one byte replaced, which is known from then on; in canonical form if it was. -/
def Memory.write : Memory → Nat → Byte → Memory
  | [], k, v => [(k, v)]
  | (a, b) :: m, k, v =>
    if k < a then (k, v) :: (a, b) :: m
    else if k = a then (k, v) :: m
    else (a, b) :: Memory.write m k v

/-- Memory with the bytes of an image placed in it, in the order of the list (R291). -/
def Memory.place (m : Memory) (image : List Host.Cell) : Memory :=
  image.foldl (fun m c => m.write c.1 c.2) m

/-- Every entry is at `lo` or above, addresses rise strictly, and all are below 2^20 (20_memory.md
R40). An entry is a known byte, and an unlisted one is not known, so no entry says what an unlisted
address does. -/
def Memory.wfFrom : Nat → Memory → Bool
  | _, [] => true
  | lo, (a, _) :: m => decide (lo ≤ a) && decide (a < 2 ^ 20) && Memory.wfFrom (a + 1) m

/-- Memory has its canonical form. -/
def Memory.wf (m : Memory) : Bool := Memory.wfFrom 0 m

/-! ## Registers -/

/-- Reads a numbered register (10_state.md R10). -/
def State.reg (s : State) (r : Reg) : Word := s.regs[r.toNat]'(r.isLt)

/-- Writes a numbered register: none is hard-wired (R10). -/
def State.setReg (s : State) (r : Reg) (v : Word) : State :=
  { s with regs := s.regs.set r.toNat v r.isLt }

/-- The stack pointer (R12). -/
def State.sp (s : State) : Word := s.reg 15#4

/-- Writes the stack pointer. -/
def State.setSp (s : State) (v : Word) : State := s.setReg 15#4 v

/-- Writes PC. -/
def State.setPc (s : State) (v : Word) : State := { s with pc := v }

/-- Writes Y. -/
def State.setY (s : State) (v : Word) : State := { s with y := v }

/-- Writes IA. -/
def State.setIa (s : State) (v : Word) : State := { s with ia := v }

/-- Writes CS, all sixteen bits (R21). -/
def State.setCs (s : State) (v : Word) : State := { s with cs := v }

/-- Writes DS, all sixteen bits (R21). -/
def State.setDs (s : State) (v : Word) : State := { s with ds := v }

/-- Writes SS, all sixteen bits (R21). -/
def State.setSs (s : State) (v : Word) : State := { s with ss := v }

/-- Writes IS, all sixteen bits (R21). -/
def State.setIs (s : State) (v : Word) : State := { s with is := v }

/-- Puts the core to sleep or wakes it (R23). -/
def State.setAsleep (s : State) (b : Bool) : State := { s with asleep := b }

/-- Drives IACK (R24). -/
def State.setIack (s : State) (b : Bool) : State := { s with iack := b }

/-- Replaces the memory contents. -/
def State.setMem (s : State) (m : Memory) : State := { s with mem := m }

/-- Replaces the script of device answers. -/
def State.setDevIn (s : State) (l : List Word) : State := { s with devIn := l }

/-- Replaces the script of INT line samples. -/
def State.setHwInt (s : State) (l : List (Option Word)) : State := { s with hwInt := l }

/-- Adds a device access to the log. -/
def State.logBus (s : State) (e : BusEvent) : State := { s with busLog := e :: s.busLog }

/-- Notes that `n` more free values have been taken. -/
def State.addDraws (s : State) (n : Nat) : State := { s with draws := s.draws + n }

/-- Notes that a skip is on its way, or that it is not (log 12). -/
def State.setSkipping (s : State) (b : Bool) : State := { s with skipping := b }

/-! ## The initial state -/

/-- An image placed in memory from outside, whatever is installed there (MEM_INIT, R291); never a
store of the core. -/
def State.placeImage (s : State) (image : List Host.Cell) : State := s.setMem (s.mem.place image)

/-- The initial state for given parameters (R290): the registers of the reset state, the image that
MEM_INIT names with every other byte unknown (R291), MEMMAP and the other parameters in `c`, the
answers of IO_DEV and the samples of HWINT. -/
def State.initial (c : Config) (memInit : List Host.Cell) (ioDev : List Word)
    (hwInt : List (Option Word)) : State :=
  let s := State.reset.placeImage memInit
  { s with cfg := c, devIn := ioDev, hwInt := hwInt }

/-! ## Addresses and devices -/

/-- `phys(SEG, off)`: the low four bits of the segment register over the offset (R41). -/
def phys (seg off : Word) : Nat := (seg.extractLsb' 0 4 ++ off : BitVec 20).toNat

/-- What is installed at a physical address: the first region that holds it, else RAM. -/
def kindAt : List Region → Nat → MemKind
  | [], _ => .ram
  | r :: rs, k => if r.base ≤ k ∧ k < r.base + r.size then r.kind else kindAt rs k

/-- What is installed at a physical address of this machine (MEMMAP, 00_scope.md R8). -/
def State.kind (s : State) (p : Nat) : MemKind := kindAt s.cfg.memMap p

/-- The environment's next answer to a device read: the next one of its script, or any value. -/
def State.answer (s : State) : Word × State :=
  match s.devIn with
  | v :: rest => (v, s.setDevIn rest)
  | [] => (Config.freeWord s.draws, s.addDraws 1)

/-- `IoRead(port)`: one read of the port, performed exactly once (R53). -/
def State.ioRead (s : State) (port : Port) : Word × State :=
  let (v, s1) := s.answer
  (v, s1.logBus (.ioRead port v))

/-- `IoWrite(port, v)` (R53). -/
def State.ioWrite (s : State) (port : Port) (v : Word) : State := s.logBus (.ioWrite port v)

/-! ## Memory accesses -/

/-- One byte read at a physical address (R45): RAM and ROM answer what they hold, a device location
what the environment says (the low byte of its answer, log 14), an absent one any value. -/
def State.readByte (s : State) (p : Nat) : Byte × State :=
  match s.kind p with
  | .ram => (s.mem.read p, s)
  | .rom => (s.mem.read p, s)
  | .device d =>
    let (v, s1) := s.answer
    (loByte v, s1.logBus (.devRead d p (loByte v)))
  | .absent => (Config.freeByte s.draws, s.addDraws 1)

/-- One byte written at a physical address (R46): only RAM takes it; a device location hands it to
the environment; ROM and absent locations change nothing. -/
def State.writeByte (s : State) (p : Nat) (v : Byte) : State :=
  match s.kind p with
  | .ram => s.setMem (s.mem.write p v)
  | .rom => s
  | .device d => s.logBus (.devWrite d p v)
  | .absent => s

/-- `MemRead(SEG:off, 2)`, big-endian, the second byte at the next offset of the same segment
(R45). -/
def State.readWord (s : State) (seg off : Word) : Word × State :=
  let (hi, s1) := s.readByte (phys seg off)
  let (lo, s2) := s1.readByte (phys seg (off + 1#16))
  (joinBytes hi lo, s2)

/-- `MemWrite(SEG:off, 2, v)`, big-endian, the bytes in ascending order (R46). -/
def State.writeWord (s : State) (seg off : Word) (v : Word) : State :=
  (s.writeByte (phys seg off) (hiByte v)).writeByte (phys seg (off + 1#16)) (loByte v)

/-! ## The stack -/

/-- `Push16(v)` under either STACK_BYTE_ORDER (R50). -/
def State.push16 (s : State) (v : Word) : State :=
  match s.cfg.stackByteOrder with
  | .asWritten =>
    let s1 := s.setSp (s.sp - 1#16)
    let s2 := s1.writeByte (phys s1.ss s1.sp) (hiByte v)
    let s3 := s2.setSp (s2.sp - 1#16)
    s3.writeByte (phys s3.ss s3.sp) (loByte v)
  | .bigEndian =>
    let s1 := s.setSp (s.sp - 2#16)
    s1.writeWord s1.ss s1.sp v

/-- `Pop16()` under either STACK_BYTE_ORDER (R51). -/
def State.pop16 (s : State) : Word × State :=
  match s.cfg.stackByteOrder with
  | .asWritten =>
    let (lo, s1) := s.readByte (phys s.ss s.sp)
    let s2 := s1.setSp (s1.sp + 1#16)
    let (hi, s3) := s2.readByte (phys s2.ss s2.sp)
    let s4 := s3.setSp (s3.sp + 1#16)
    (joinBytes hi lo, s4)
  | .bigEndian =>
    let (v, s1) := s.readWord s.ss s.sp
    (v, s1.setSp (s1.sp + 2#16))

/-! ## The program counter -/

/-- PC past one word, with carry into CS (10_state.md R15). -/
def State.advancePc (s : State) : State :=
  let t := s.pc.toNat + 2
  if 0xFFFF < t then (s.setPc (BitVec.ofNat 16 t)).setCs (s.cs + 1#16) else s.setPc (BitVec.ofNat 16 t)

/-! ## Interrupts -/

/-- The gate of every interrupt request: IA is not 0 and IF is 0 (60_exceptions.md R254). -/
def State.gateOpen (s : State) : Bool := decide (s.ia ≠ 0#16) && !s.flag .intf

/-- `Enter(m)`: taking an interrupt (R260). R1, CS and PC are saved on the stack, execution goes to
IS:IA, IF and IACK are set, R1 gets the message, and the core is awake. -/
def State.enter (s : State) (m : Word) : State :=
  let s1 := ((s.push16 (s.reg 1#4)).push16 s.cs).push16 s.pc
  let s2 := (s1.setCs s.is).setPc s.ia
  (((s2.setFlag .intf true).setIack true).setReg 1#4 m).setAsleep false

/-- Returning from an interrupt (47_interrupt_instr.md R223): PC, CS and R1 come back from the stack,
IF and IACK are cleared. -/
def State.leave (s : State) : State :=
  let (pc, s1) := s.pop16
  let s2 := s1.setPc pc
  let (cs, s3) := s2.pop16
  let s4 := s3.setCs cs
  let (r1, s5) := s4.pop16
  ((s5.setReg 1#4 r1).setFlag .intf false).setIack false

/-- `raise Interrupt(m)` by the instruction being executed, once all its writes are done: taken if the
gate is open, else dropped (R254). It has the first place at the boundary (R261), so it is taken here
and closes the gate for the rest of the boundary (log 8). -/
def State.raise (s : State) (m : Word) : State := if s.gateOpen then s.enter m else s

/-- The environment's sample of the INT line for this step (R256): the data-bus value if it is
asserted. -/
def State.sampleInt (s : State) : Option Word × State :=
  match s.hwInt with
  | [] => (none, s)
  | h :: rest => (h, s.setHwInt rest)

/-- A hardware request against the gate (R256). -/
def State.offer (s : State) (hw : Option Word) : State :=
  match hw with
  | some m => if s.gateOpen then s.enter m else s
  | none => s

/-- The single-step condition, sampled before the fetch (R258). -/
def State.stepArmed (s : State) : Bool := s.flag .tss && !s.flag .intf

/-- The instruction boundary after the instruction's own interrupt (R261, R276): single-step first,
then the INT line; one interrupt at most, the rest dropped. -/
def State.boundary (s : State) (armed : Bool) : State :=
  let (hw, s1) := s.sampleInt
  if armed && s1.gateOpen then s1.enter 1#16 else s1.offer hw

/-- The end of a step of the awake core: the boundary, unless a skip is still on its way; then the
instruction has not ended, and there is none (R262). -/
def State.endStep (s : State) (armed : Bool) : State := if s.skipping then s else s.boundary armed

/-- What a step answers once the instruction has answered (R276): at its end, the boundary. -/
def endOutcome (armed : Bool) :
    Host.Outcome State Fault Refusal → Host.Outcome State Fault Refusal
  | .next s => .next (s.endStep armed)
  | .fault f => .fault f
  | .refused r => .refused r

/-- A step of the sleeping core (R276, 46_special.md R211): only a hardware interrupt that is taken
wakes it. -/
def State.sleepStep (s : State) : State :=
  let (hw, s1) := s.sampleInt
  s1.offer hw

end Sys2Proof.Machine
end

