-- ==== Sys2Proof/Machine/Operands.lean ====
section
/-! DEFINITION. The operand forms (30_encoding.md R78 to R80), the effective address (40_ram.md R100)
and the shift and rotate amounts (41_alu.md R127). -/

namespace Sys2Proof.Machine

/-- The 16-bit value of a literal: a 4-bit one zero-extended, an extension word as it is (R78). -/
def litValue : Lit → Word
  | .short n => n.setWidth 16
  | .ext v => v

/-- The byte displacement of a 9-bit literal, -256 to 255 (R79). -/
def displacement (l9 : BitVec 9) : Int := l9.toInt

/-- The segment of a LOAD or STORE whose base field is `r1`: SS for BP and SP, else DS (R42, R100).
The number in the field decides, not the register's contents. -/
def State.dataSeg (s : State) (r1 : Reg) : Word := if r1 = 14#4 ∨ r1 = 15#4 then s.ss else s.ds

/-- The offset of a LOAD or STORE: base plus index, wrapping in the segment (R100). -/
def State.dataOff (s : State) (r1 : Reg) (b : Word) : Word := s.reg r1 + b

/-- The shift amount: the whole value of `b`, or its low four bits, as SHIFT_BIG says (R127). -/
def shiftAmount (c : Config) (b : Word) : Nat :=
  match c.shiftBig with
  | .fullValue => b.toNat
  | .mask4 => b.toNat % 16

/-- The rotate amount (R127). -/
def rotateAmount (b : Word) : Nat := b.toNat % 16

/-- The I/O port an operand names: its low eight bits (20_memory.md R53). -/
def portOf (b : Word) : Port := b.setWidth 8

end Sys2Proof.Machine
end

