-- ==== Sys2Proof/Machine/Alu.lean ====
section
/-! DEFINITION. The ALU instructions (41_alu.md R110 to R132). Operands are read before
anything is written (30_encoding.md R80). -/

namespace Sys2Proof.Machine

/-- `Finish` of 41_alu.md R110: the result, CF and OF are written, then an overflow with TOE set
requests the interrupt with message 4. -/
def State.finishArith (s : State) (r3 : Reg) (r : ArithResult) : State :=
  let s1 := ((s.setReg r3 r.value).setFlag .cf r.carry).setFlag .ovf r.overflow
  if r.overflow && s.flag .toe then s1.raise 4#16 else s1

/-- A 32-bit result, its high half in Y and its low half in the register (R115, R118). -/
def State.setYReg (s : State) (r3 : Reg) (p : BitVec 32) : State :=
  (s.setY (p.extractLsb' 16 16)).setReg r3 (p.extractLsb' 0 16)

/-- The 32-bit dividend `Y : x[r3]` (R117). -/
def State.dividend (s : State) (r3 : Reg) : BitVec 32 := s.y ++ s.reg r3

/-- A division error once the destination holds its value (R117): DE is set, and with TDE set the
interrupt with message 0 is requested. -/
def State.divError (s : State) : State :=
  let s1 := s.setFlag .de true
  if s.flag .tde then s1.raise 0#16 else s1

/-- DIV and UDIV (R117 to R119) by the divisor `b`, `q` the quotient: on a zero divisor Y and the
register are two free values (log 7). -/
def State.divide (s : State) (r3 : Reg) (b : Word) (q : BitVec 32) : State :=
  if b = 0#16 then
    (((s.setY (Config.freeWord s.draws)).setReg r3 (Config.freeWord (s.draws + 1))).addDraws 2).divError
  else (s.setYReg r3 q).setFlag .de false

/-- MOD and UMOD (R117, R120, R121) by the divisor `b`, `m` the remainder: on a zero divisor the
register is a free value (log 7); Y is never written. -/
def State.remainder (s : State) (r3 : Reg) (b : Word) (m : Word) : State :=
  if b = 0#16 then ((s.setReg r3 (Config.freeWord s.draws)).addDraws 1).divError
  else (s.setReg r3 m).setFlag .de false

/-- The unsigned quotient (R118). -/
def uquot (d : BitVec 32) (b : Word) : BitVec 32 := BitVec.ofNat 32 (d.toNat / b.toNat)

/-- The signed quotient, truncated toward zero, modulo 2^32 (R119). -/
def squot (d : BitVec 32) (b : Word) : BitVec 32 := BitVec.ofInt 32 (d.toInt.tdiv b.toInt)

/-- The unsigned remainder (R120). -/
def urem (d : BitVec 32) (b : Word) : Word := BitVec.ofNat 16 (d.toNat % b.toNat)

/-- The signed remainder, with the sign of the dividend, modulo 2^16 (R121). -/
def srem (d : BitVec 32) (b : Word) : Word := BitVec.ofInt 16 (d.toInt.tmod b.toInt)

/-- A shift's result with its carry; the shifts write no other flag (R127). -/
def State.finishShift (s : State) (r3 : Reg) (v : Word) (carry : Bool) : State :=
  (s.setReg r3 v).setFlag .cf carry

/-- SLL by the amount that `b` gives (R128). -/
def State.sll (s : State) (r3 : Reg) (b : Word) : State :=
  let n := shiftAmount s.cfg b
  s.finishShift r3 (s.reg r3 <<< n) (sllCarry (s.reg r3) n)

/-- SRL by the amount that `b` gives (R129). -/
def State.srl (s : State) (r3 : Reg) (b : Word) : State :=
  let n := shiftAmount s.cfg b
  s.finishShift r3 (s.reg r3 >>> n) (srlCarry (s.reg r3) n)

/-- SRA by the amount that `b` gives (R130). -/
def State.sra (s : State) (r3 : Reg) (b : Word) : State :=
  let n := shiftAmount s.cfg b
  s.finishShift r3 ((s.reg r3).sshiftRight n) (sraCarry (s.reg r3) n)

/-- A word rotated left by fewer than 16 places (R131). -/
def rotl (a : Word) (n : Nat) : Word := (a <<< n) ||| (a >>> (16 - n))

/-- A word rotated right by fewer than 16 places (R132). -/
def rotr (a : Word) (n : Nat) : Word := (a >>> n) ||| (a <<< (16 - n))

/-- ADD, R111, the second operand a register. -/
def execAddReg (r2 : Reg) (r3 : Reg) (s : State) : Host.Outcome State Fault Refusal :=
  .next (s.finishArith r3 (addCore (s.reg r3) (s.reg r2) false))

/-- ADD, R111, the second operand a literal. -/
def execAddLit (l : Lit) (r3 : Reg) (s : State) : Host.Outcome State Fault Refusal :=
  .next (s.finishArith r3 (addCore (s.reg r3) (litValue l) false))

/-- ADDC, R112. -/
def execAddc (r2 : Reg) (r3 : Reg) (s : State) : Host.Outcome State Fault Refusal :=
  .next (s.finishArith r3 (addCore (s.reg r3) (s.reg r2) (s.flag .cf)))

/-- SUB, R113, the second operand a register. -/
def execSubReg (r2 : Reg) (r3 : Reg) (s : State) : Host.Outcome State Fault Refusal :=
  .next (s.finishArith r3 (subCore (s.reg r3) (s.reg r2) false))

/-- SUB, R113, the second operand a literal. -/
def execSubLit (l : Lit) (r3 : Reg) (s : State) : Host.Outcome State Fault Refusal :=
  .next (s.finishArith r3 (subCore (s.reg r3) (litValue l) false))

/-- SUBB, R114, the second operand a register. -/
def execSubbReg (r2 : Reg) (r3 : Reg) (s : State) : Host.Outcome State Fault Refusal :=
  .next (s.finishArith r3 (subCore (s.reg r3) (s.reg r2) (s.flag .cf)))

/-- SUBB, R114, the second operand a literal. -/
def execSubbLit (l : Lit) (r3 : Reg) (s : State) : Host.Outcome State Fault Refusal :=
  .next (s.finishArith r3 (subCore (s.reg r3) (litValue l) (s.flag .cf)))

/-- UMUL, R115, the second operand a register. -/
def execUmulReg (r2 : Reg) (r3 : Reg) (s : State) : Host.Outcome State Fault Refusal :=
  .next (s.setYReg r3 (BitVec.ofNat 32 ((s.reg r3).toNat * (s.reg r2).toNat)))

/-- UMUL, R115, the second operand a literal. -/
def execUmulLit (l : Lit) (r3 : Reg) (s : State) : Host.Outcome State Fault Refusal :=
  .next (s.setYReg r3 (BitVec.ofNat 32 ((s.reg r3).toNat * (litValue l).toNat)))

/-- MUL, R116, the second operand a register. -/
def execMulReg (r2 : Reg) (r3 : Reg) (s : State) : Host.Outcome State Fault Refusal :=
  .next (s.setYReg r3 (BitVec.ofInt 32 ((s.reg r3).toInt * (s.reg r2).toInt)))

/-- MUL, R116, the second operand a literal. -/
def execMulLit (l : Lit) (r3 : Reg) (s : State) : Host.Outcome State Fault Refusal :=
  .next (s.setYReg r3 (BitVec.ofInt 32 ((s.reg r3).toInt * (litValue l).toInt)))

/-- UDIV, R118, the second operand a register. -/
def execUdivReg (r2 : Reg) (r3 : Reg) (s : State) : Host.Outcome State Fault Refusal :=
  .next (s.divide r3 (s.reg r2) (uquot (s.dividend r3) (s.reg r2)))

/-- UDIV, R118, the second operand a literal. -/
def execUdivLit (l : Lit) (r3 : Reg) (s : State) : Host.Outcome State Fault Refusal :=
  .next (s.divide r3 (litValue l) (uquot (s.dividend r3) (litValue l)))

/-- DIV, R119, the second operand a register. -/
def execDivReg (r2 : Reg) (r3 : Reg) (s : State) : Host.Outcome State Fault Refusal :=
  .next (s.divide r3 (s.reg r2) (squot (s.dividend r3) (s.reg r2)))

/-- DIV, R119, the second operand a literal. -/
def execDivLit (l : Lit) (r3 : Reg) (s : State) : Host.Outcome State Fault Refusal :=
  .next (s.divide r3 (litValue l) (squot (s.dividend r3) (litValue l)))

/-- UMOD, R120, the second operand a register. -/
def execUmodReg (r2 : Reg) (r3 : Reg) (s : State) : Host.Outcome State Fault Refusal :=
  .next (s.remainder r3 (s.reg r2) (urem (s.dividend r3) (s.reg r2)))

/-- UMOD, R120, the second operand a literal. -/
def execUmodLit (l : Lit) (r3 : Reg) (s : State) : Host.Outcome State Fault Refusal :=
  .next (s.remainder r3 (litValue l) (urem (s.dividend r3) (litValue l)))

/-- MOD, R121, the second operand a register. -/
def execModReg (r2 : Reg) (r3 : Reg) (s : State) : Host.Outcome State Fault Refusal :=
  .next (s.remainder r3 (s.reg r2) (srem (s.dividend r3) (s.reg r2)))

/-- MOD, R121, the second operand a literal. -/
def execModLit (l : Lit) (r3 : Reg) (s : State) : Host.Outcome State Fault Refusal :=
  .next (s.remainder r3 (litValue l) (srem (s.dividend r3) (litValue l)))

/-- NOT, R122. -/
def execNot (r3 : Reg) (s : State) : Host.Outcome State Fault Refusal :=
  .next (s.setReg r3 (~~~(s.reg r3)))

/-- NEG, R123: no flag is written. -/
def execNeg (r3 : Reg) (s : State) : Host.Outcome State Fault Refusal :=
  .next (s.setReg r3 (-(s.reg r3)))

/-- AND, R124. -/
def execAnd (r2 : Reg) (r3 : Reg) (s : State) : Host.Outcome State Fault Refusal :=
  .next (s.setReg r3 (s.reg r3 &&& s.reg r2))

/-- OR, R125. -/
def execOr (r2 : Reg) (r3 : Reg) (s : State) : Host.Outcome State Fault Refusal :=
  .next (s.setReg r3 (s.reg r3 ||| s.reg r2))

/-- XOR, R126. -/
def execXor (r2 : Reg) (r3 : Reg) (s : State) : Host.Outcome State Fault Refusal :=
  .next (s.setReg r3 (s.reg r3 ^^^ s.reg r2))

/-- SLL, R128, the second operand a register. -/
def execSllReg (r2 : Reg) (r3 : Reg) (s : State) : Host.Outcome State Fault Refusal :=
  .next (s.sll r3 (s.reg r2))

/-- SLL, R128, the second operand a literal. -/
def execSllLit (l : Lit) (r3 : Reg) (s : State) : Host.Outcome State Fault Refusal :=
  .next (s.sll r3 (litValue l))

/-- SRL, R129, the second operand a register. -/
def execSrlReg (r2 : Reg) (r3 : Reg) (s : State) : Host.Outcome State Fault Refusal :=
  .next (s.srl r3 (s.reg r2))

/-- SRL, R129, the second operand a literal. -/
def execSrlLit (l : Lit) (r3 : Reg) (s : State) : Host.Outcome State Fault Refusal :=
  .next (s.srl r3 (litValue l))

/-- SRA, R130, the second operand a register. -/
def execSraReg (r2 : Reg) (r3 : Reg) (s : State) : Host.Outcome State Fault Refusal :=
  .next (s.sra r3 (s.reg r2))

/-- SRA, R130, the second operand a literal. -/
def execSraLit (l : Lit) (r3 : Reg) (s : State) : Host.Outcome State Fault Refusal :=
  .next (s.sra r3 (litValue l))

/-- ROTL, R131, the second operand a register. -/
def execRotlReg (r2 : Reg) (r3 : Reg) (s : State) : Host.Outcome State Fault Refusal :=
  .next (s.setReg r3 (rotl (s.reg r3) (rotateAmount (s.reg r2))))

/-- ROTL, R131, the second operand a literal. -/
def execRotlLit (l : Lit) (r3 : Reg) (s : State) : Host.Outcome State Fault Refusal :=
  .next (s.setReg r3 (rotl (s.reg r3) (rotateAmount (litValue l))))

/-- ROTR, R132, the second operand a register. -/
def execRotrReg (r2 : Reg) (r3 : Reg) (s : State) : Host.Outcome State Fault Refusal :=
  .next (s.setReg r3 (rotr (s.reg r3) (rotateAmount (s.reg r2))))

/-- ROTR, R132, the second operand a literal. -/
def execRotrLit (l : Lit) (r3 : Reg) (s : State) : Host.Outcome State Fault Refusal :=
  .next (s.setReg r3 (rotr (s.reg r3) (rotateAmount (litValue l))))

end Sys2Proof.Machine
end

