-- ==== Sys2Proof/Machine/Fetch.lean ====
section
/-! DEFINITION. Fetching an instruction (20_memory.md R48, R49, 30_encoding.md R78) and skipping
instructions (42_branch.md R161). -/

namespace Sys2Proof.Machine

/-- `Fetch16()`: the word at CS:PC, PC advanced (R48); refused at PC = 0xFFFF (R49). -/
def State.fetch16 (s : State) : Except Refusal (Word × State) :=
  if s.pc = 0xFFFF#16 then .error .straddlingFetch
  else
    let (w, s1) := s.readWord s.cs s.pc
    .ok (w, s1.advancePc)

/-- A word placed at CS:PC in memory, a part of the program image (MEM_INIT, R291). -/
def State.storeCode (s : State) (w : Word) : State :=
  s.placeImage [(phys s.cs s.pc, hiByte w), (phys s.cs (s.pc + 1#16), loByte w)]

/-- Fetches the instruction at CS:PC: the first word, refused if it is reserved or unassigned (R87),
and the extension word right after it if the first announces one (R78). -/
def State.fetchInstr (s : State) : Except Refusal (Instr × State) :=
  match s.fetch16 with
  | .error r => .error r
  | .ok (w, s1) =>
    match decodeWords w 0#16 with
    | .error e => .error (.reservedWord e)
    | .ok i =>
      if i.words = 1 then .ok (i, s1)
      else
        match s1.fetch16 with
        | .error r => .error r
        | .ok (x, s2) =>
          match decodeWords w x with
          | .error e => .error (.reservedWord e)
          | .ok j => .ok (j, s2)

/-- Steps over one instruction without executing it (R161): its first word is read for its length;
its extension word is passed over unread (log 11). A word at PC = 0xFFFF is refused as in a fetch
(log 10). -/
def State.skipInstr (s : State) : Except Refusal (Instr × State) :=
  match s.fetch16 with
  | .error r => .error r
  | .ok (w, s1) =>
    match decodeWords w 0#16 with
    | .error e => .error (.reservedWord e)
    | .ok i =>
      if i.words = 1 then .ok (i, s1)
      else if s1.pc = 0xFFFF#16 then .error .straddlingFetch
      else .ok (i, s1.advancePc)

/-- The skip of a failed test (R161): instructions are passed over until one that is not conditional
has been. `fuel` bounds how many one step passes; a skip that is longer is still on its way after the
step (log 12). -/
def State.skipChain : Nat → State → Host.Outcome State Fault Refusal
  | 0, s => .next (s.setSkipping true)
  | fuel + 1, s =>
    match s.skipInstr with
    | .error r => .refused r
    | .ok (i, s1) => if i.isConditional then State.skipChain fuel s1 else .next s1

/-- How many instructions one step of a skip passes: one for every position of the code space, so
that in RAM and ROM only a skip that never ends takes a second step (log 12). -/
def skipFuel : Nat := 0x100000

/-- A step that goes on with a skip (R161, log 12). -/
def State.resumeSkip (s : State) : Host.Outcome State Fault Refusal :=
  State.skipChain skipFuel (s.setSkipping false)

/-- A conditional instruction (R160): nothing else happens if the test holds, a skip if it fails. -/
def State.conditional (s : State) (holds : Bool) : Host.Outcome State Fault Refusal :=
  if holds then .next s else State.skipChain skipFuel s

end Sys2Proof.Machine
end

