-- ==== Sys2Proof/Machine/Branch.lean ====
section
/-! DEFINITION. The conditional instructions (42_branch.md R160 to R172): the next
instruction runs if the test holds and is skipped if it fails. -/

namespace Sys2Proof.Machine

/-- BEQ, R162, the second operand a register. -/
def execBeqReg (r2 : Reg) (r3 : Reg) (s : State) : Host.Outcome State Fault Refusal :=
  s.conditional (decide (s.reg r3 = s.reg r2))

/-- BEQ, R162, the second operand a literal. -/
def execBeqLit (l : Lit) (r3 : Reg) (s : State) : Host.Outcome State Fault Refusal :=
  s.conditional (decide (s.reg r3 = litValue l))

/-- BNEQ, R163, the second operand a register. -/
def execBneqReg (r2 : Reg) (r3 : Reg) (s : State) : Host.Outcome State Fault Refusal :=
  s.conditional (decide (s.reg r3 ≠ s.reg r2))

/-- BNEQ, R163, the second operand a literal. -/
def execBneqLit (l : Lit) (r3 : Reg) (s : State) : Host.Outcome State Fault Refusal :=
  s.conditional (decide (s.reg r3 ≠ litValue l))

/-- BG, R164: signed, the second operand a register. -/
def execBgReg (r2 : Reg) (r3 : Reg) (s : State) : Host.Outcome State Fault Refusal :=
  s.conditional (decide ((s.reg r2).toInt < (s.reg r3).toInt))

/-- BG, R164: signed, the second operand a literal. -/
def execBgLit (l : Lit) (r3 : Reg) (s : State) : Host.Outcome State Fault Refusal :=
  s.conditional (decide ((litValue l).toInt < (s.reg r3).toInt))

/-- BGE, R165: signed, the second operand a register. -/
def execBgeReg (r2 : Reg) (r3 : Reg) (s : State) : Host.Outcome State Fault Refusal :=
  s.conditional (decide ((s.reg r2).toInt ≤ (s.reg r3).toInt))

/-- BGE, R165: signed, the second operand a literal. -/
def execBgeLit (l : Lit) (r3 : Reg) (s : State) : Host.Outcome State Fault Refusal :=
  s.conditional (decide ((litValue l).toInt ≤ (s.reg r3).toInt))

/-- BUG, R166: unsigned, the second operand a register. -/
def execBugReg (r2 : Reg) (r3 : Reg) (s : State) : Host.Outcome State Fault Refusal :=
  s.conditional (decide ((s.reg r2).toNat < (s.reg r3).toNat))

/-- BUG, R166: unsigned, the second operand a literal. -/
def execBugLit (l : Lit) (r3 : Reg) (s : State) : Host.Outcome State Fault Refusal :=
  s.conditional (decide ((litValue l).toNat < (s.reg r3).toNat))

/-- BUGE, R167: unsigned, the second operand a register. -/
def execBugeReg (r2 : Reg) (r3 : Reg) (s : State) : Host.Outcome State Fault Refusal :=
  s.conditional (decide ((s.reg r2).toNat ≤ (s.reg r3).toNat))

/-- BUGE, R167: unsigned, the second operand a literal. -/
def execBugeLit (l : Lit) (r3 : Reg) (s : State) : Host.Outcome State Fault Refusal :=
  s.conditional (decide ((litValue l).toNat ≤ (s.reg r3).toNat))

/-- BBITS, R168. -/
def execBbits (r2 : Reg) (r3 : Reg) (s : State) : Host.Outcome State Fault Refusal :=
  s.conditional (decide (s.reg r3 &&& s.reg r2 ≠ 0#16))

/-- BCLEAR, R169. -/
def execBclear (r2 : Reg) (r3 : Reg) (s : State) : Host.Outcome State Fault Refusal :=
  s.conditional (decide (s.reg r3 &&& s.reg r2 = 0#16))

/-- BOVF, R170. -/
def execBovf (s : State) : Host.Outcome State Fault Refusal :=
  s.conditional (s.flag .ovf)

/-- BOCF, R171. -/
def execBocf (s : State) : Host.Outcome State Fault Refusal :=
  s.conditional (s.flag .cf)

end Sys2Proof.Machine
end

