-- ==== Sys2Proof/Machine/Interrupt.lean ====
section
/-! DEFINITION. The interrupt instructions (47_interrupt_instr.md R220 to R223). -/

namespace Sys2Proof.Machine

/-- INT with the message in a register, R220. -/
def execIntReg (r3 : Reg) (s : State) : Host.Outcome State Fault Refusal :=
  .next (s.raise (s.reg r3))

/-- INT with a literal message, R220. -/
def execIntLit (l : Lit) (s : State) : Host.Outcome State Fault Refusal :=
  .next (s.raise (litValue l))

/-- SETIA from a register, R221. -/
def execSetiaReg (r3 : Reg) (s : State) : Host.Outcome State Fault Refusal :=
  .next (s.setIa (s.reg r3))

/-- SETIA from a literal, R221. -/
def execSetiaLit (l : Lit) (s : State) : Host.Outcome State Fault Refusal :=
  .next (s.setIa (litValue l))

/-- GETIA, R222. -/
def execGetia (r3 : Reg) (s : State) : Host.Outcome State Fault Refusal :=
  .next (s.setReg r3 s.ia)

/-- RFI, R223. -/
def execRfi (s : State) : Host.Outcome State Fault Refusal :=
  .next s.leave

end Sys2Proof.Machine
end

