-- ==== Sys2Proof/Machine/Io.lean ====
section
/-! DEFINITION. The hardware interface instructions (48_io.md R230, R231). -/

namespace Sys2Proof.Machine

/-- INP from the port that `b` names (R230): one read, all sixteen bits into the register. -/
def State.inp (s : State) (r3 : Reg) (b : Word) : State :=
  let (v, s1) := s.ioRead (portOf b)
  s1.setReg r3 v

/-- INP, R230, the port in a register. -/
def execInpReg (r2 : Reg) (r3 : Reg) (s : State) : Host.Outcome State Fault Refusal :=
  .next (s.inp r3 (s.reg r2))

/-- INP, R230, the port a literal. -/
def execInpLit (l : Lit) (r3 : Reg) (s : State) : Host.Outcome State Fault Refusal :=
  .next (s.inp r3 (litValue l))

/-- OUT, R231, the port in a register. -/
def execOutReg (r2 : Reg) (r3 : Reg) (s : State) : Host.Outcome State Fault Refusal :=
  .next (s.ioWrite (portOf (s.reg r2)) (s.reg r3))

/-- OUT, R231, the port a literal. -/
def execOutLit (l : Lit) (r3 : Reg) (s : State) : Host.Outcome State Fault Refusal :=
  .next (s.ioWrite (portOf (litValue l)) (s.reg r3))

end Sys2Proof.Machine
end

