-- ==== Sys2Proof/Machine/Jump.lean ====
section
/-! DEFINITION. The jumps, calls and returns (44_jump.md R190 to R198). PC holds `npc`
when they run (R198). -/

namespace Sys2Proof.Machine

/-- The target of an absolute JMP or CALL (R190, R191): register plus literal, wrapping; CS is kept. -/
def State.absTarget (s : State) (l : Lit) (r3 : Reg) : Word := s.reg r3 + litValue l

/-- A relative JMP from `npc` (R192): it crosses into the next or the previous segment. -/
def State.jumpRel (s : State) (off : BitVec 9) : State :=
  let t : Int := s.pc.toNat + displacement off
  let s1 := s.setPc (BitVec.ofInt 16 t)
  if 0xFFFF < t then s1.setCs (s.cs + 1#16) else if t < 0 then s1.setCs (s.cs - 1#16) else s1

/-- JMP absolute, R190. -/
def execJmpAbs (l : Lit) (r3 : Reg) (s : State) : Host.Outcome State Fault Refusal :=
  .next (s.setPc (s.absTarget l r3))

/-- CALL absolute, R191: the target is formed from the old SP, `npc` is pushed. -/
def execCallAbs (l : Lit) (r3 : Reg) (s : State) : Host.Outcome State Fault Refusal :=
  .next ((s.push16 s.pc).setPc (s.absTarget l r3))

/-- JMP relative, R192. -/
def execJmpRel (off : BitVec 9) (s : State) : Host.Outcome State Fault Refusal :=
  .next (s.jumpRel off)

/-- CALL relative, R193: the target wraps inside the segment. -/
def execCallRel (off : BitVec 9) (s : State) : Host.Outcome State Fault Refusal :=
  .next ((s.push16 s.pc).setPc (BitVec.ofInt 16 (s.pc.toNat + displacement off)))

/-- LJMP, R194. -/
def execLjmp (r2 : Reg) (r3 : Reg) (s : State) : Host.Outcome State Fault Refusal :=
  .next ((s.setCs (s.reg r3)).setPc (s.reg r2))

/-- LCALL, R195: CS is pushed, then `npc`; the operands are read first. -/
def execLcall (r2 : Reg) (r3 : Reg) (s : State) : Host.Outcome State Fault Refusal :=
  .next ((((s.push16 s.cs).push16 s.pc).setCs (s.reg r3)).setPc (s.reg r2))

/-- RET, R196. -/
def execRet (s : State) : Host.Outcome State Fault Refusal :=
  let (pc, s1) := s.pop16
  .next (s1.setPc pc)

/-- LRET, R197. -/
def execLret (s : State) : Host.Outcome State Fault Refusal :=
  let (pc, s1) := s.pop16
  let s2 := s1.setPc pc
  let (cs, s3) := s2.pop16
  .next (s3.setCs cs)

end Sys2Proof.Machine
end

