-- ==== Sys2Proof/Machine/Ram.lean ====
section
/-! DEFINITION. The four memory instructions (40_ram.md R100 to R104). No memory access
faults (20_memory.md R56). -/

namespace Sys2Proof.Machine

/-- LOAD with index `b` (R101): the big-endian word at the effective address. -/
def State.loadWord (s : State) (r1 : Reg) (b : Word) (r3 : Reg) : State :=
  let (v, s1) := s.readWord (s.dataSeg r1) (s.dataOff r1 b)
  s1.setReg r3 v

/-- LOAD.B with index `b` (R102): the byte at the effective address, into bits 7:0 of the register;
bits 15:8 as LOADB_UPPER says. -/
def State.loadByte (s : State) (r1 : Reg) (b : Word) (r3 : Reg) : State :=
  let (v, s1) := s.readByte (phys (s.dataSeg r1) (s.dataOff r1 b))
  match s.cfg.loadbUpper with
  | .preserve => s1.setReg r3 (joinBytes (hiByte (s.reg r3)) v)
  | .zero => s1.setReg r3 (joinBytes 0#8 v)

/-- STORE with index `b` (R103). -/
def State.storeWord (s : State) (r1 : Reg) (b : Word) (r3 : Reg) : State :=
  s.writeWord (s.dataSeg r1) (s.dataOff r1 b) (s.reg r3)

/-- STORE.B with index `b` (R104): the low byte of the register to the one byte at the address. -/
def State.storeByte (s : State) (r1 : Reg) (b : Word) (r3 : Reg) : State :=
  s.writeByte (phys (s.dataSeg r1) (s.dataOff r1 b)) (loByte (s.reg r3))

/-- LOAD, R101, the index a register. -/
def execLoadReg (r1 : Reg) (r2 : Reg) (r3 : Reg) (s : State) : Host.Outcome State Fault Refusal :=
  .next (s.loadWord r1 (s.reg r2) r3)

/-- LOAD, R101, the index a literal. -/
def execLoadLit (r1 : Reg) (l : Lit) (r3 : Reg) (s : State) : Host.Outcome State Fault Refusal :=
  .next (s.loadWord r1 (litValue l) r3)

/-- LOAD.B, R102, the index a register. -/
def execLoadBReg (r1 : Reg) (r2 : Reg) (r3 : Reg) (s : State) : Host.Outcome State Fault Refusal :=
  .next (s.loadByte r1 (s.reg r2) r3)

/-- LOAD.B, R102, the index a literal. -/
def execLoadBLit (r1 : Reg) (l : Lit) (r3 : Reg) (s : State) : Host.Outcome State Fault Refusal :=
  .next (s.loadByte r1 (litValue l) r3)

/-- STORE, R103, the index a register. -/
def execStoreReg (r1 : Reg) (r2 : Reg) (r3 : Reg) (s : State) : Host.Outcome State Fault Refusal :=
  .next (s.storeWord r1 (s.reg r2) r3)

/-- STORE, R103, the index a literal. -/
def execStoreLit (r1 : Reg) (l : Lit) (r3 : Reg) (s : State) : Host.Outcome State Fault Refusal :=
  .next (s.storeWord r1 (litValue l) r3)

/-- STORE.B, R104, the index a register. -/
def execStoreBReg (r1 : Reg) (r2 : Reg) (r3 : Reg) (s : State) : Host.Outcome State Fault Refusal :=
  .next (s.storeByte r1 (s.reg r2) r3)

/-- STORE.B, R104, the index a literal. -/
def execStoreBLit (r1 : Reg) (l : Lit) (r3 : Reg) (s : State) : Host.Outcome State Fault Refusal :=
  .next (s.storeByte r1 (litValue l) r3)

end Sys2Proof.Machine
end

