-- ==== Sys2Proof/Machine/Register.lean ====
section
/-! DEFINITION. The register operations (43_register.md R180 to R184). -/

namespace Sys2Proof.Machine

/-- SWP, R180: both are read before either is written. -/
def execSwp (r2 : Reg) (r3 : Reg) (s : State) : Host.Outcome State Fault Refusal :=
  .next ((s.setReg r3 (s.reg r2)).setReg r2 (s.reg r3))

/-- CPY, R181. -/
def execCpy (r2 : Reg) (r3 : Reg) (s : State) : Host.Outcome State Fault Refusal :=
  .next (s.setReg r3 (s.reg r2))

/-- SET, R182. -/
def execSet (l : Lit) (r3 : Reg) (s : State) : Host.Outcome State Fault Refusal :=
  .next (s.setReg r3 (litValue l))

/-- XCHG, R183. -/
def execXchg (r3 : Reg) (s : State) : Host.Outcome State Fault Refusal :=
  .next (s.setReg r3 (joinBytes (loByte (s.reg r3)) (hiByte (s.reg r3))))

/-- SXTBD, R184. -/
def execSxtbd (r3 : Reg) (s : State) : Host.Outcome State Fault Refusal :=
  .next (s.setReg r3 ((loByte (s.reg r3)).signExtend 16))

end Sys2Proof.Machine
end

