-- ==== Sys2Proof/Machine/Segment.lean ====
section
/-! DEFINITION. The segment register instructions (49_segment.md R235 to R242): moves of all
sixteen bits. -/

namespace Sys2Proof.Machine

/-- SETCS from a register, R235: the next fetch is from the new segment. -/
def execSetcsReg (r3 : Reg) (s : State) : Host.Outcome State Fault Refusal :=
  .next (s.setCs (s.reg r3))

/-- SETCS from a literal, R235: the next fetch is from the new segment. -/
def execSetcsLit (l : Lit) (s : State) : Host.Outcome State Fault Refusal :=
  .next (s.setCs (litValue l))

/-- GETCS, R236. -/
def execGetcs (r3 : Reg) (s : State) : Host.Outcome State Fault Refusal :=
  .next (s.setReg r3 s.cs)

/-- SETDS from a register, R237. -/
def execSetdsReg (r3 : Reg) (s : State) : Host.Outcome State Fault Refusal :=
  .next (s.setDs (s.reg r3))

/-- SETDS from a literal, R237. -/
def execSetdsLit (l : Lit) (s : State) : Host.Outcome State Fault Refusal :=
  .next (s.setDs (litValue l))

/-- GETDS, R238. -/
def execGetds (r3 : Reg) (s : State) : Host.Outcome State Fault Refusal :=
  .next (s.setReg r3 s.ds)

/-- SETSS from a register, R239. -/
def execSetssReg (r3 : Reg) (s : State) : Host.Outcome State Fault Refusal :=
  .next (s.setSs (s.reg r3))

/-- SETSS from a literal, R239. -/
def execSetssLit (l : Lit) (s : State) : Host.Outcome State Fault Refusal :=
  .next (s.setSs (litValue l))

/-- GETSS, R240. -/
def execGetss (r3 : Reg) (s : State) : Host.Outcome State Fault Refusal :=
  .next (s.setReg r3 s.ss)

/-- SETIS from a register, R241. -/
def execSetisReg (r3 : Reg) (s : State) : Host.Outcome State Fault Refusal :=
  .next (s.setIs (s.reg r3))

/-- SETIS from a literal, R241. -/
def execSetisLit (l : Lit) (s : State) : Host.Outcome State Fault Refusal :=
  .next (s.setIs (litValue l))

/-- GETIS, R242. -/
def execGetis (r3 : Reg) (s : State) : Host.Outcome State Fault Refusal :=
  .next (s.setReg r3 s.is)

end Sys2Proof.Machine
end

