-- ==== Sys2Proof/Machine/Special.lean ====
section
/-! DEFINITION. The special instructions (46_special.md R210 to R216). -/

namespace Sys2Proof.Machine

/-- NOP, R210. -/
def execNop (s : State) : Host.Outcome State Fault Refusal :=
  .next s

/-- SLEEP, R211. -/
def execSleep (s : State) : Host.Outcome State Fault Refusal :=
  .next (s.setAsleep true)

/-- GETPC, R212: PC is `npc`. -/
def execGetpc (r3 : Reg) (s : State) : Host.Outcome State Fault Refusal :=
  .next (s.setReg r3 s.pc)

/-- SETFLAGS, R213: all sixteen bits; with RESERVED_FLAGS = refuse, a reserved bit set is refused. -/
def execSetflags (r3 : Reg) (s : State) : Host.Outcome State Fault Refusal :=
  if s.cfg.reservedFlags = .refuse ∧ s.reg r3 &&& reservedFlagsMask ≠ 0#16 then .refused .reservedFlags
  else .next (s.setFlags (s.reg r3))

/-- GETFLAGS, R214. -/
def execGetflags (r3 : Reg) (s : State) : Host.Outcome State Fault Refusal :=
  .next (s.setReg r3 s.flags)

/-- SETY from a register, R215. -/
def execSetyReg (r3 : Reg) (s : State) : Host.Outcome State Fault Refusal :=
  .next (s.setY (s.reg r3))

/-- SETY from a literal, R215. -/
def execSetyLit (l : Lit) (s : State) : Host.Outcome State Fault Refusal :=
  .next (s.setY (litValue l))

/-- GETY, R216. -/
def execGety (r3 : Reg) (s : State) : Host.Outcome State Fault Refusal :=
  .next (s.setReg r3 s.y)

end Sys2Proof.Machine
end

