-- ==== Sys2Proof/Machine/Stack.lean ====
section
/-! DEFINITION. The stack instructions (45_stack.md R205, R206). -/

namespace Sys2Proof.Machine

/-- PUSH, R205: PUSH SP pushes the old SP. -/
def execPush (r3 : Reg) (s : State) : Host.Outcome State Fault Refusal :=
  .next (s.push16 (s.reg r3))

/-- POP, R206: the register is written last, so POP SP ends with the popped word. -/
def execPop (r3 : Reg) (s : State) : Host.Outcome State Fault Refusal :=
  let (v, s1) := s.pop16
  .next (s1.setReg r3 v)

end Sys2Proof.Machine
end

