-- ==== Sys2Proof/Machine/Dispatch.lean ====
section
/-! DEFINITION. Which meaning each instruction has, one arm for each constructor. The state handed to
`exec` is the one after the whole instruction has been fetched: PC holds `npc` (00_scope.md R9). -/

namespace Sys2Proof.Machine

def exec (i : Instr) (s : State) : Host.Outcome State Fault Refusal :=
  match i with
  | .loadLit r1 l r3 => Sys2Proof.Machine.execLoadLit r1 l r3 s
  | .loadReg r1 r2 r3 => Sys2Proof.Machine.execLoadReg r1 r2 r3 s
  | .loadBLit r1 l r3 => Sys2Proof.Machine.execLoadBLit r1 l r3 s
  | .loadBReg r1 r2 r3 => Sys2Proof.Machine.execLoadBReg r1 r2 r3 s
  | .storeLit r1 l r3 => Sys2Proof.Machine.execStoreLit r1 l r3 s
  | .storeReg r1 r2 r3 => Sys2Proof.Machine.execStoreReg r1 r2 r3 s
  | .storeBLit r1 l r3 => Sys2Proof.Machine.execStoreBLit r1 l r3 s
  | .storeBReg r1 r2 r3 => Sys2Proof.Machine.execStoreBReg r1 r2 r3 s
  | .addReg r2 r3 => Sys2Proof.Machine.execAddReg r2 r3 s
  | .addLit l r3 => Sys2Proof.Machine.execAddLit l r3 s
  | .subReg r2 r3 => Sys2Proof.Machine.execSubReg r2 r3 s
  | .subLit l r3 => Sys2Proof.Machine.execSubLit l r3 s
  | .addc r2 r3 => Sys2Proof.Machine.execAddc r2 r3 s
  | .subbReg r2 r3 => Sys2Proof.Machine.execSubbReg r2 r3 s
  | .subbLit l r3 => Sys2Proof.Machine.execSubbLit l r3 s
  | .and r2 r3 => Sys2Proof.Machine.execAnd r2 r3 s
  | .or r2 r3 => Sys2Proof.Machine.execOr r2 r3 s
  | .xor r2 r3 => Sys2Proof.Machine.execXor r2 r3 s
  | .sllReg r2 r3 => Sys2Proof.Machine.execSllReg r2 r3 s
  | .sllLit l r3 => Sys2Proof.Machine.execSllLit l r3 s
  | .srlReg r2 r3 => Sys2Proof.Machine.execSrlReg r2 r3 s
  | .srlLit l r3 => Sys2Proof.Machine.execSrlLit l r3 s
  | .sraReg r2 r3 => Sys2Proof.Machine.execSraReg r2 r3 s
  | .sraLit l r3 => Sys2Proof.Machine.execSraLit l r3 s
  | .rotlReg r2 r3 => Sys2Proof.Machine.execRotlReg r2 r3 s
  | .rotlLit l r3 => Sys2Proof.Machine.execRotlLit l r3 s
  | .rotrReg r2 r3 => Sys2Proof.Machine.execRotrReg r2 r3 s
  | .rotrLit l r3 => Sys2Proof.Machine.execRotrLit l r3 s
  | .umulReg r2 r3 => Sys2Proof.Machine.execUmulReg r2 r3 s
  | .umulLit l r3 => Sys2Proof.Machine.execUmulLit l r3 s
  | .udivReg r2 r3 => Sys2Proof.Machine.execUdivReg r2 r3 s
  | .udivLit l r3 => Sys2Proof.Machine.execUdivLit l r3 s
  | .umodReg r2 r3 => Sys2Proof.Machine.execUmodReg r2 r3 s
  | .umodLit l r3 => Sys2Proof.Machine.execUmodLit l r3 s
  | .mulReg r2 r3 => Sys2Proof.Machine.execMulReg r2 r3 s
  | .mulLit l r3 => Sys2Proof.Machine.execMulLit l r3 s
  | .divReg r2 r3 => Sys2Proof.Machine.execDivReg r2 r3 s
  | .divLit l r3 => Sys2Proof.Machine.execDivLit l r3 s
  | .modReg r2 r3 => Sys2Proof.Machine.execModReg r2 r3 s
  | .modLit l r3 => Sys2Proof.Machine.execModLit l r3 s
  | .swp r2 r3 => Sys2Proof.Machine.execSwp r2 r3 s
  | .cpy r2 r3 => Sys2Proof.Machine.execCpy r2 r3 s
  | .set l r3 => Sys2Proof.Machine.execSet l r3 s
  | .beqReg r2 r3 => Sys2Proof.Machine.execBeqReg r2 r3 s
  | .beqLit l r3 => Sys2Proof.Machine.execBeqLit l r3 s
  | .bneqReg r2 r3 => Sys2Proof.Machine.execBneqReg r2 r3 s
  | .bneqLit l r3 => Sys2Proof.Machine.execBneqLit l r3 s
  | .bgReg r2 r3 => Sys2Proof.Machine.execBgReg r2 r3 s
  | .bgLit l r3 => Sys2Proof.Machine.execBgLit l r3 s
  | .bgeReg r2 r3 => Sys2Proof.Machine.execBgeReg r2 r3 s
  | .bgeLit l r3 => Sys2Proof.Machine.execBgeLit l r3 s
  | .bugReg r2 r3 => Sys2Proof.Machine.execBugReg r2 r3 s
  | .bugLit l r3 => Sys2Proof.Machine.execBugLit l r3 s
  | .bugeReg r2 r3 => Sys2Proof.Machine.execBugeReg r2 r3 s
  | .bugeLit l r3 => Sys2Proof.Machine.execBugeLit l r3 s
  | .bbits r2 r3 => Sys2Proof.Machine.execBbits r2 r3 s
  | .bclear r2 r3 => Sys2Proof.Machine.execBclear r2 r3 s
  | .inpReg r2 r3 => Sys2Proof.Machine.execInpReg r2 r3 s
  | .inpLit l r3 => Sys2Proof.Machine.execInpLit l r3 s
  | .outReg r2 r3 => Sys2Proof.Machine.execOutReg r2 r3 s
  | .outLit l r3 => Sys2Proof.Machine.execOutLit l r3 s
  | .ljmp r2 r3 => Sys2Proof.Machine.execLjmp r2 r3 s
  | .lcall r2 r3 => Sys2Proof.Machine.execLcall r2 r3 s
  | .jmpAbs l r3 => Sys2Proof.Machine.execJmpAbs l r3 s
  | .callAbs l r3 => Sys2Proof.Machine.execCallAbs l r3 s
  | .not r3 => Sys2Proof.Machine.execNot r3 s
  | .neg r3 => Sys2Proof.Machine.execNeg r3 s
  | .xchg r3 => Sys2Proof.Machine.execXchg r3 s
  | .sxtbd r3 => Sys2Proof.Machine.execSxtbd r3 s
  | .push r3 => Sys2Proof.Machine.execPush r3 s
  | .pop r3 => Sys2Proof.Machine.execPop r3 s
  | .getpc r3 => Sys2Proof.Machine.execGetpc r3 s
  | .setflags r3 => Sys2Proof.Machine.execSetflags r3 s
  | .getflags r3 => Sys2Proof.Machine.execGetflags r3 s
  | .setyReg r3 => Sys2Proof.Machine.execSetyReg r3 s
  | .setyLit l => Sys2Proof.Machine.execSetyLit l s
  | .gety r3 => Sys2Proof.Machine.execGety r3 s
  | .intReg r3 => Sys2Proof.Machine.execIntReg r3 s
  | .intLit l => Sys2Proof.Machine.execIntLit l s
  | .setiaReg r3 => Sys2Proof.Machine.execSetiaReg r3 s
  | .setiaLit l => Sys2Proof.Machine.execSetiaLit l s
  | .getia r3 => Sys2Proof.Machine.execGetia r3 s
  | .setcsReg r3 => Sys2Proof.Machine.execSetcsReg r3 s
  | .setcsLit l => Sys2Proof.Machine.execSetcsLit l s
  | .getcs r3 => Sys2Proof.Machine.execGetcs r3 s
  | .setdsReg r3 => Sys2Proof.Machine.execSetdsReg r3 s
  | .setdsLit l => Sys2Proof.Machine.execSetdsLit l s
  | .getds r3 => Sys2Proof.Machine.execGetds r3 s
  | .setssReg r3 => Sys2Proof.Machine.execSetssReg r3 s
  | .setssLit l => Sys2Proof.Machine.execSetssLit l s
  | .getss r3 => Sys2Proof.Machine.execGetss r3 s
  | .setisReg r3 => Sys2Proof.Machine.execSetisReg r3 s
  | .setisLit l => Sys2Proof.Machine.execSetisLit l s
  | .getis r3 => Sys2Proof.Machine.execGetis r3 s
  | .jmpRel off => Sys2Proof.Machine.execJmpRel off s
  | .callRel off => Sys2Proof.Machine.execCallRel off s
  | .nop => Sys2Proof.Machine.execNop s
  | .sleep => Sys2Proof.Machine.execSleep s
  | .ret => Sys2Proof.Machine.execRet s
  | .lret => Sys2Proof.Machine.execLret s
  | .rfi => Sys2Proof.Machine.execRfi s
  | .bovf => Sys2Proof.Machine.execBovf s
  | .bocf => Sys2Proof.Machine.execBocf s

end Sys2Proof.Machine
end

