-- ==== Sys2Proof/Machine/Step.lean ====
section
/-! DEFINITION. One step of the whole machine (60_exceptions.md R276), and where a program's word is
placed. -/

namespace Sys2Proof.Machine

/-- One step of the whole machine (R276): the sleeping core samples the INT line and nothing else; a
skip that is on its way goes on (log 12); otherwise an instruction is fetched and executed. The
single-step condition is sampled first, and no skip changes it. The boundary at the end of the
instruction is evaluated with the values just written. -/
def step (s : State) : Host.Outcome State Fault Refusal :=
  if s.asleep then .next s.sleepStep
  else if s.skipping then endOutcome s.stepArmed s.resumeSkip
  else
    match s.fetchInstr with
    | .error r => .refused r
    | .ok (i, s1) => endOutcome s.stepArmed (exec i s1)

/-- The state with an instruction of `nbits` bits `w` stored at CS:PC, where the next step fetches,
and the core awake, at the start of an instruction (log 13). The second word lies where PC is after the first (10_state.md R15). -/
def State.withFetchWord (s : State) (nbits w : Nat) : State :=
  let v := w % 2 ^ nbits
  let s1 := s.storeCode (BitVec.ofNat 16 v)
  let s2 := s1.advancePc.storeCode (BitVec.ofNat 16 (v / 2 ^ 16))
  ((s.setMem s2.mem).setAsleep false).setSkipping false

end Sys2Proof.Machine
end

