-- ==== Sys2Proof/Machine/Timing.lean ====
section
/-! DEFINITION. The cycle counts of 70_reset_and_hazards.md R294, transcribed. This is timing: no step
reads it and State holds no cycle counter (60_exceptions.md R271); log 15. -/

namespace Sys2Proof.Machine

/-- The "Cycle Count" column (R294). SLEEP's "At least 1" is written 1. -/
def baseCycles : Instr → Nat
  | .loadLit _ _ _ => 4
  | .loadReg _ _ _ => 4
  | .loadBLit _ _ _ => 4
  | .loadBReg _ _ _ => 4
  | .storeLit _ _ _ => 4
  | .storeReg _ _ _ => 4
  | .storeBLit _ _ _ => 4
  | .storeBReg _ _ _ => 4
  | .addReg _ _ => 3
  | .addLit _ _ => 3
  | .subReg _ _ => 3
  | .subLit _ _ => 3
  | .addc _ _ => 3
  | .subbReg _ _ => 3
  | .subbLit _ _ => 3
  | .and _ _ => 3
  | .or _ _ => 3
  | .xor _ _ => 3
  | .sllReg _ _ => 3
  | .sllLit _ _ => 3
  | .srlReg _ _ => 3
  | .srlLit _ _ => 3
  | .sraReg _ _ => 3
  | .sraLit _ _ => 3
  | .rotlReg _ _ => 3
  | .rotlLit _ _ => 3
  | .rotrReg _ _ => 3
  | .rotrLit _ _ => 3
  | .umulReg _ _ => 80
  | .umulLit _ _ => 80
  | .udivReg _ _ => 100
  | .udivLit _ _ => 100
  | .umodReg _ _ => 100
  | .umodLit _ _ => 100
  | .mulReg _ _ => 100
  | .mulLit _ _ => 100
  | .divReg _ _ => 120
  | .divLit _ _ => 120
  | .modReg _ _ => 120
  | .modLit _ _ => 120
  | .swp _ _ => 3
  | .cpy _ _ => 2
  | .set _ _ => 2
  | .beqReg _ _ => 5
  | .beqLit _ _ => 5
  | .bneqReg _ _ => 5
  | .bneqLit _ _ => 5
  | .bgReg _ _ => 5
  | .bgLit _ _ => 5
  | .bgeReg _ _ => 5
  | .bgeLit _ _ => 5
  | .bugReg _ _ => 5
  | .bugLit _ _ => 5
  | .bugeReg _ _ => 5
  | .bugeLit _ _ => 5
  | .bbits _ _ => 6
  | .bclear _ _ => 6
  | .inpReg _ _ => 3
  | .inpLit _ _ => 3
  | .outReg _ _ => 3
  | .outLit _ _ => 3
  | .ljmp _ _ => 3
  | .lcall _ _ => 5
  | .jmpAbs _ _ => 3
  | .callAbs _ _ => 4
  | .not _ => 3
  | .neg _ => 3
  | .xchg _ => 3
  | .sxtbd _ => 3
  | .push _ => 3
  | .pop _ => 3
  | .getpc _ => 2
  | .setflags _ => 3
  | .getflags _ => 2
  | .setyReg _ => 3
  | .setyLit _ => 3
  | .gety _ => 2
  | .intReg _ => 8
  | .intLit _ => 8
  | .setiaReg _ => 3
  | .setiaLit _ => 3
  | .getia _ => 2
  | .setcsReg _ => 3
  | .setcsLit _ => 3
  | .getcs _ => 2
  | .setdsReg _ => 3
  | .setdsLit _ => 3
  | .getds _ => 2
  | .setssReg _ => 3
  | .setssLit _ => 3
  | .getss _ => 2
  | .setisReg _ => 3
  | .setisLit _ => 3
  | .getis _ => 2
  | .jmpRel _ => 3
  | .callRel _ => 4
  | .nop => 1
  | .sleep => 1
  | .ret => 4
  | .lret => 5
  | .rfi => 8
  | .bovf => 6
  | .bocf => 6

/-- The count with the modifier for an extension word: "Access to the next word for long literals
takes a extra clock cycle" (R294). -/
def instrCycles (i : Instr) : Nat := baseCycles i + (i.words - 1)

/-- The extra cycles of a failed test that skips `n` instructions, `n` at least 1: one for the failed
test, one for each instruction after the first (R294). -/
def skipCycles (n : Nat) : Nat := 1 + (n - 1)

end Sys2Proof.Machine
end

