-- ==== Sys2Proof/Safety.lean ====
section
/-! DEFINITION. The terms that claims are stated in: what a run's end is, what a state holds in RAM or
ROM, which parts of the state an instruction leaves alone, the tests of the conditional instructions
and the skip as relations. Nothing here is used by a step. -/

namespace Sys2Proof.Machine

/-! ## The end of a run -/

/-- The core sleeps and no interrupt can be taken: it makes no further progress (46_special.md R211,
93_implementation_defined.md U12). -/
def State.stuckAsleep (s : State) : Bool := s.asleep && !s.gateOpen

/-- The default HALT predicate (00_scope.md R8, 70_reset_and_hazards.md R295): asleep with no
interrupt able to wake the core, either for the gate or for the INT line that is never asserted. -/
def State.halted (s : State) : Bool :=
  s.asleep && (!s.gateOpen || s.hwInt.all (fun h => h.isNone))

/-! ## What memory holds -/

/-- The byte that RAM or ROM holds at SEG:off. -/
def State.peek (s : State) (seg off : Word) : Byte := s.mem.read (phys seg off)

/-- RAM or ROM is installed at SEG:off. -/
def State.holdsByte (s : State) (seg off : Word) : Prop :=
  s.kind (phys seg off) = .ram ∨ s.kind (phys seg off) = .rom

/-- RAM or ROM is installed at both bytes of the word at SEG:off. -/
def State.holdsWord (s : State) (seg off : Word) : Prop :=
  s.holdsByte seg off ∧ s.holdsByte seg (off + 1#16)

/-- RAM is installed at both bytes of the word at SEG:off. -/
def State.ramWord (s : State) (seg off : Word) : Prop :=
  s.kind (phys seg off) = .ram ∧ s.kind (phys seg (off + 1#16)) = .ram

/-- The big-endian word that RAM or ROM holds at SEG:off (20_memory.md R44). -/
def State.peekWord (s : State) (seg off : Word) : Word :=
  joinBytes (s.peek seg off) (s.peek seg (off + 1#16))

/-- The word that RAM or ROM holds on the stack at SS:off, its bytes placed as STACK_BYTE_ORDER says
(20_memory.md R50). -/
def State.stackWord (s : State) (off : Word) : Word :=
  match s.cfg.stackByteOrder with
  | .asWritten => joinBytes (s.peek s.ss (off + 1#16)) (s.peek s.ss off)
  | .bigEndian => joinBytes (s.peek s.ss off) (s.peek s.ss (off + 1#16))

/-! ## What devices see -/

/-- What a byte written to a physical address hands to the device model (20_memory.md R46): one event
where a device is installed, nothing elsewhere. -/
def State.handed (s : State) (p : Nat) (v : Byte) : List BusEvent :=
  match s.kind p with
  | .device d => [.devWrite d p v]
  | .ram => []
  | .rom => []
  | .absent => []

/-! ## Frames -/

/-- The registers that have no number. -/
inductive Special where
  | pc | cs | ds | ss | is | ia | y
  deriving DecidableEq, Repr

/-- The contents of a register that has no number. -/
def State.special (s : State) : Special → Word
  | .pc => s.pc
  | .cs => s.cs
  | .ds => s.ds
  | .ss => s.ss
  | .is => s.is
  | .ia => s.ia
  | .y => s.y

/-- Every numbered register but those of `rs`, and every other register but those of `xs` and FLAGS,
is the same in `t` as in `s`; so are the sleep bit, IACK, the parameters, the INT line's script and
whether a skip is on its way. -/
structure Kept (rs : List Reg) (xs : List Special) (s t : State) : Prop where
  regs : ∀ r, r ∉ rs → t.reg r = s.reg r
  specials : ∀ x, x ∉ xs → t.special x = s.special x
  asleep : t.asleep = s.asleep
  iack : t.iack = s.iack
  cfg : t.cfg = s.cfg
  hwInt : t.hwInt = s.hwInt
  skipping : t.skipping = s.skipping

/-- Every bit of FLAGS but those of `fs`, the reserved bits included, is the same. -/
def FlagsKept (fs : List Flag) (s t : State) : Prop :=
  ∀ k, k < 16 → (∀ f ∈ fs, k ≠ f.bit) → t.flags.getLsbD k = s.flags.getLsbD k

/-- Every byte of memory is the same. -/
def MemKept (s t : State) : Prop := ∀ a, t.mem.read a = s.mem.read a

/-- Every byte of memory is the same but those at the addresses of `as`. -/
def MemKeptOutside (as : List Nat) (s t : State) : Prop :=
  ∀ a, a ∉ as → t.mem.read a = s.mem.read a

/-- No device was accessed and no free value taken. -/
def EnvKept (s t : State) : Prop :=
  t.devIn = s.devIn ∧ t.busLog = s.busLog ∧ t.draws = s.draws

/-- The step from `s` to `t` changes at most the numbered registers `rs`, the flags `fs` and the other
registers `xs`. -/
structure OnlyChanges (rs : List Reg) (fs : List Flag) (xs : List Special) (s t : State) : Prop where
  kept : Kept rs xs s t
  flags : FlagsKept fs s t
  mem : MemKept s t
  env : EnvKept s t

/-! ## Operands and tests -/

/-- `i` is one of the two forms of an instruction and `b` the value of its second operand. -/
def OperandForm (s : State) (reg : Reg → Instr) (lit : Lit → Instr) (i : Instr) (b : Word) : Prop :=
  (∃ r, i = reg r ∧ b = s.reg r) ∨ (∃ l, i = lit l ∧ b = litValue l)

/-- The test of each conditional instruction (42_branch.md R162 to R171). -/
inductive TestOf (s : State) : Instr → Prop → Prop
  | beqReg (r2 r3 : Reg) : TestOf s (.beqReg r2 r3) (s.reg r3 = s.reg r2)
  | beqLit (l : Lit) (r3 : Reg) : TestOf s (.beqLit l r3) (s.reg r3 = litValue l)
  | bneqReg (r2 r3 : Reg) : TestOf s (.bneqReg r2 r3) (s.reg r3 ≠ s.reg r2)
  | bneqLit (l : Lit) (r3 : Reg) : TestOf s (.bneqLit l r3) (s.reg r3 ≠ litValue l)
  | bgReg (r2 r3 : Reg) : TestOf s (.bgReg r2 r3) ((s.reg r3).toInt > (s.reg r2).toInt)
  | bgLit (l : Lit) (r3 : Reg) : TestOf s (.bgLit l r3) ((s.reg r3).toInt > (litValue l).toInt)
  | bgeReg (r2 r3 : Reg) : TestOf s (.bgeReg r2 r3) ((s.reg r3).toInt ≥ (s.reg r2).toInt)
  | bgeLit (l : Lit) (r3 : Reg) : TestOf s (.bgeLit l r3) ((s.reg r3).toInt ≥ (litValue l).toInt)
  | bugReg (r2 r3 : Reg) : TestOf s (.bugReg r2 r3) ((s.reg r3).toNat > (s.reg r2).toNat)
  | bugLit (l : Lit) (r3 : Reg) : TestOf s (.bugLit l r3) ((s.reg r3).toNat > (litValue l).toNat)
  | bugeReg (r2 r3 : Reg) : TestOf s (.bugeReg r2 r3) ((s.reg r3).toNat ≥ (s.reg r2).toNat)
  | bugeLit (l : Lit) (r3 : Reg) : TestOf s (.bugeLit l r3) ((s.reg r3).toNat ≥ (litValue l).toNat)
  | bbits (r2 r3 : Reg) : TestOf s (.bbits r2 r3) (s.reg r3 &&& s.reg r2 ≠ 0#16)
  | bclear (r2 r3 : Reg) : TestOf s (.bclear r2 r3) (s.reg r3 &&& s.reg r2 = 0#16)
  | bovf : TestOf s .bovf (s.flag .ovf = true)
  | bocf : TestOf s .bocf (s.flag .cf = true)

/-- The state after the instruction at CS:PC has been passed over unexecuted, `i` being that
instruction as far as its first word tells it (42_branch.md R161). -/
structure PassesOver (s : State) (i : Instr) (t : State) : Prop where
  pc : s.pc ≠ 0xFFFF#16
  first : decodeWords (s.readWord s.cs s.pc).1 0#16 = .ok i
  oneWord : i.words = 1 → t = (s.readWord s.cs s.pc).2.advancePc
  twoWords : i.words ≠ 1 → (s.readWord s.cs s.pc).2.advancePc.pc ≠ 0xFFFF#16 ∧
    t = (s.readWord s.cs s.pc).2.advancePc.advancePc

/-- A skip on its way: exactly `n` conditional instructions passed over from `s` to `t` (R161). -/
inductive PassesConditionals : Nat → State → State → Prop
  | none (s : State) : PassesConditionals 0 s s
  | more (n : Nat) (s u t : State) (i : Instr) :
      PassesOver s i u → i.isConditional = true → PassesConditionals n u t →
      PassesConditionals (n + 1) s t

/-- A whole skip, over exactly `n` instructions: conditional ones, then one that is not (R161). -/
def SkipsOver (n : Nat) (s t : State) : Prop :=
  ∃ m u i, n = m + 1 ∧ PassesConditionals m s u ∧ PassesOver u i t ∧ i.isConditional = false

/-! ## Words without an instruction -/

/-- The reserved and unassigned first words (30_encoding.md R87). -/
def NoInstruction (w : Word) : Prop :=
  (0x75 ≤ w.toNat / 2 ^ 8 ∧ w.toNat / 2 ^ 8 ≤ 0x7B) ∨
  (0x21D ≤ w.toNat / 2 ^ 4 ∧ w.toNat / 2 ^ 4 ≤ 0x3FF) ∨
  (0x0A ≤ w.toNat / 2 ^ 9 ∧ w.toNat / 2 ^ 9 ≤ 0x0F) ∨
  (w.toNat / 2 ^ 12 = 0 ∧ w.toNat ∉ [0x0000, 0x0001, 0x0002, 0x0003, 0x0004, 0x0008, 0x0009])

end Sys2Proof.Machine
end

