-- ==== Sys2Proof/Certificates/Slice0/Obligations.lean ====
section
/-! DEFINITION. The statements about the model, for the provers. `exec` is stated for the state after
the whole instruction has been fetched, so PC is `npc` in it (00_scope.md R9). -/

open Sys2Proof Sys2Proof.Machine

/-! ## Decoding and encoding -/

/-- Words written out from the spec's encodings decode to the instructions they stand for, one or
more of every format (30_encoding.md R72 to R76). -/
def Obligations.SpecWordsDecode : Prop :=
  decodeWords 0x8245 0 = .ok (.loadLit 2 (.short 4) 5) ∧
  decodeWords 0x81F3 0xFFFE = .ok (.loadLit 1 (.ext 0xFFFE) 3) ∧
  decodeWords 0xF129 0 = .ok (.storeBReg 1 2 9) ∧
  decodeWords 0x4021 0 = .ok (.addReg 2 1) ∧
  decodeWords 0x5DF1 0x1234 = .ok (.divLit (.ext 0x1234) 1) ∧
  decodeWords 0x6C01 0 = .ok (.bugLit (.short 0) 1) ∧
  decodeWords 0x7D23 0 = .ok (.lcall 2 3) ∧
  decodeWords 0x20A5 0 = .ok (.setyLit (.short 5)) ∧
  decodeWords 0x215F 0x000F = .ok (.setdsLit (.ext 0x000F)) ∧
  decodeWords 0x21C9 0 = .ok (.getis 9) ∧
  decodeWords 0x11FE 0 = .ok (.jmpRel 0x1FE) ∧
  decodeWords 0x1220 0 = .ok (.callRel 0x020) ∧
  decodeWords 0x0004 0 = .ok .rfi ∧
  decodeWords 0x0009 0 = .ok .bocf

/-- Decode and encode agree, one way: the bytes of a well-formed instruction, whatever follows
them, decode to it and to what follows. -/
def Obligations.DecodeInvertsEncode : Prop :=
  ∀ (i : Instr) (rest : List Byte), i.wellFormed = true →
    decode (encodeBytes i ++ rest) = .ok (i, rest)

/-- Decode and encode agree, the other way: bytes that decode are the encoding of the instruction
they decode to, which is well-formed, followed by what the decoder leaves. -/
def Obligations.EncodeInvertsDecode : Prop :=
  ∀ (bytes rest : List Byte) (i : Instr), decode bytes = .ok (i, rest) →
    i.wellFormed = true ∧ bytes = encodeBytes i ++ rest

/-- The decoder returns "invalid" for exactly the reserved and unassigned first words; an awake
core refuses to execute one, and a failed test refuses to skip one, wherever in its chain it stands
(30_encoding.md R87): among the first 2^20 instructions in the step of the conditional instruction,
beyond them in the step that comes to it. The refusal is the spec's own decision D27; that a skip of
more than 2^20 instructions takes more steps than one is the model's choice (log 12). -/
def Obligations.ReservedWordsAreExactlyRefused : Prop :=
  (∀ w x : Word, (∃ e, decodeWords w x = .error e) ↔ NoInstruction w) ∧
  (∀ s : State, s.asleep = false → s.pc ≠ 0xFFFF#16 → NoInstruction (s.readWord s.cs s.pc).1 →
    ∃ e, step s = .refused (.reservedWord e)) ∧
  (∀ (s u : State) (i : Instr) (P : Prop) (n : Nat), TestOf s i P → ¬P →
    n < 2 ^ 20 → PassesConditionals n s u → u.pc ≠ 0xFFFF#16 →
    NoInstruction (u.readWord u.cs u.pc).1 → ∃ e, exec i s = .refused (.reservedWord e)) ∧
  (∀ (s u : State) (n : Nat), s.asleep = false → s.skipping = true →
    PassesConditionals n (s.setSkipping false) u → u.pc ≠ 0xFFFF#16 →
    NoInstruction (u.readWord u.cs u.pc).1 →
    ∃ e, core.run (n / 2 ^ 20 + 1) s = .refused (.reservedWord e))

/-- The conditional instructions are exactly the words with bits 15:8 in 0x63 to 0x70 and the words
0x0008 and 0x0009 (42_branch.md R161). -/
def Obligations.ConditionalWordsAreExactlyThese : Prop :=
  ∀ (w x : Word) (i : Instr), decodeWords w x = .ok i →
    (i.isConditional = true ↔
      (0x63 ≤ w.toNat / 2 ^ 8 ∧ w.toNat / 2 ^ 8 ≤ 0x70) ∨ w = 0x0008#16 ∨ w = 0x0009#16)

/-- The first word tells the length (30_encoding.md R81): two words exactly when it is a literal
form whose 4-bit literal field is 1111. -/
def Obligations.FirstWordTellsLength : Prop :=
  ∀ (w x : Word) (i : Instr), decodeWords w x = .ok i →
    (i.words = 2 ∨ i.words = 1) ∧
    (i.words = 2 ↔
      (w.toNat / 2 ^ 12 ∈ [0x8, 0xA, 0xC, 0xE] ∧ w.toNat / 2 ^ 4 % 16 = 15) ∨
      (w.toNat / 2 ^ 8 ∈ [0x41, 0x43, 0x46, 0x4B, 0x4D, 0x4F, 0x51, 0x53, 0x55, 0x57, 0x59, 0x5B, 0x5D,
        0x5F, 0x62, 0x64, 0x66, 0x68, 0x6A, 0x6C, 0x6E, 0x72, 0x74, 0x7E, 0x7F] ∧
        w.toNat / 2 ^ 4 % 16 = 15) ∨
      (w.toNat / 2 ^ 4 ∈ [0x20A, 0x20D, 0x20F, 0x212, 0x215, 0x218, 0x21B] ∧ w.toNat % 16 = 15))

/-! ## Reset, memory, the stack and fetch -/

/-- After boot or reset every register is 0 (10_state.md R27). -/
def Obligations.ResetClearsEveryRegister : Prop :=
  (∀ r : Reg, State.reset.reg r = 0#16) ∧
  State.reset.pc = 0#16 ∧ State.reset.y = 0#16 ∧ State.reset.flags = 0#16 ∧ State.reset.ia = 0#16 ∧
  State.reset.cs = 0#16 ∧ State.reset.ds = 0#16 ∧ State.reset.ss = 0#16 ∧ State.reset.is = 0#16

/-- RAM and ROM answer the byte they hold, with no side effect; a device location answers what the
environment answers; an absent location answers some value and changes nothing but the count of
free values; a word is the two bytes at the offset and the next offset of the same segment, the
first in bits 15:8. The kinds of location are the spec's own decision D30; the source of the
answers is the model's choice (logs 4, 5 and 14). -/
def Obligations.ReadAnswersByKind : Prop :=
  (∀ (s : State) (p : Nat), s.kind p = .ram ∨ s.kind p = .rom → s.readByte p = (s.mem.read p, s)) ∧
  (∀ (s : State) (p d : Nat), s.kind p = .device d →
    (s.readByte p).1 = loByte s.answer.1 ∧
    (s.readByte p).2 = s.answer.2.logBus (.devRead d p (loByte s.answer.1))) ∧
  (∀ (s : State) (p : Nat), s.kind p = .absent →
    ∃ v, s.readByte p = (v, s.addDraws 1)) ∧
  (∀ (s : State) (seg off : Word), s.holdsWord seg off →
    s.readWord seg off = (s.peek seg off ++ s.peek seg (off + 1#16), s)) ∧
  (∀ (s : State) (seg off : Word),
    (s.readWord seg off).1 = (s.readByte (phys seg off)).1 ++
      ((s.readByte (phys seg off)).2.readByte (phys seg (off + 1#16))).1)

/-- RAM takes the byte written and no other byte changes; ROM and absent locations change nothing;
a device location is handed the byte; a word is written high byte at the offset, low byte at the
next offset of the same segment. The kinds of location are the spec's own decision D30; the log of
device writes is the model's choice (log 5). -/
def Obligations.WriteGoesByKind : Prop :=
  (∀ (s : State) (p : Nat) (v : Byte), s.kind p = .ram →
    (s.writeByte p v).mem.read p = v ∧ MemKeptOutside [p] s (s.writeByte p v) ∧
    (s.writeByte p v).busLog = s.busLog) ∧
  (∀ (s : State) (p : Nat) (v : Byte), s.kind p = .rom ∨ s.kind p = .absent → s.writeByte p v = s) ∧
  (∀ (s : State) (p d : Nat) (v : Byte), s.kind p = .device d →
    MemKept s (s.writeByte p v) ∧ (s.writeByte p v).busLog = .devWrite d p v :: s.busLog) ∧
  (∀ (s : State) (seg off v : Word), s.ramWord seg off →
    (s.writeWord seg off v).peek seg off = v.extractLsb' 8 8 ∧
    (s.writeWord seg off v).peek seg (off + 1#16) = v.extractLsb' 0 8)

/-- A push takes two from SP and leaves the low byte at SS:SP and the high byte at SS:SP+1, or the
other way round with STACK_BYTE_ORDER = big_endian; nothing else changes. The order of the bytes is
the spec's own decision D1. -/
def Obligations.PushPlacesBothBytes : Prop :=
  ∀ (s : State) (v : Word), s.ramWord s.ss (s.sp - 2#16) →
    (s.push16 v).sp = s.sp - 2#16 ∧
    (s.cfg.stackByteOrder = .asWritten →
      (s.push16 v).peek s.ss (s.sp - 2#16) = v.extractLsb' 0 8 ∧
      (s.push16 v).peek s.ss (s.sp - 1#16) = v.extractLsb' 8 8) ∧
    (s.cfg.stackByteOrder = .bigEndian →
      (s.push16 v).peek s.ss (s.sp - 2#16) = v.extractLsb' 8 8 ∧
      (s.push16 v).peek s.ss (s.sp - 1#16) = v.extractLsb' 0 8) ∧
    MemKeptOutside [phys s.ss (s.sp - 2#16), phys s.ss (s.sp - 1#16)] s (s.push16 v) ∧
    Kept [15] [] s (s.push16 v) ∧ FlagsKept [] s (s.push16 v) ∧ EnvKept s (s.push16 v)

/-- Under either STACK_BYTE_ORDER a pop returns what the matching push wrote, and SP comes back
(20_memory.md R51). The order of the bytes is the spec's own decision D1. -/
def Obligations.PopReturnsWhatPushWrote : Prop :=
  ∀ (s : State) (v : Word), s.ramWord s.ss (s.sp - 2#16) →
    (s.push16 v).pop16.1 = v ∧ Kept [] [] s (s.push16 v).pop16.2 ∧
    FlagsKept [] s (s.push16 v).pop16.2 ∧ EnvKept s (s.push16 v).pop16.2

/-- A fetch at PC = 0xFFFF is refused; every other fetch answers the word at CS:PC and adds two to
PC, with a carry into CS at 0xFFFE (10_state.md R15), and changes nothing else. The refusal is the
spec's own decision D2. -/
def Obligations.FetchAdvancesOrIsRefused : Prop :=
  (∀ s : State, s.pc = 0xFFFF#16 → s.fetch16 = .error .straddlingFetch) ∧
  (∀ s : State, s.asleep = false → s.pc = 0xFFFF#16 → step s = .refused .straddlingFetch) ∧
  (∀ s : State, s.pc ≠ 0xFFFF#16 → s.holdsWord s.cs s.pc →
    ∃ t, s.fetch16 = .ok (s.peekWord s.cs s.pc, t) ∧
      t.pc = s.pc + 2#16 ∧ t.cs = (if s.pc = 0xFFFE#16 then s.cs + 1#16 else s.cs) ∧
      OnlyChanges [] [] [.pc, .cs] s t)

/-! ## The step and the interrupts -/

/-- A step of the awake core runs the instruction that stands at CS:PC and then evaluates the
boundary: the instruction is the one whose encoding lies there, one word or two, and it runs with
PC past all its words (60_exceptions.md R276). That the instruction's own interrupt is taken inside
exec is the model's choice (log 8), and so is that a skip of more than 2^20 instructions takes more
steps than one, the boundary being at the end of the last (log 12). -/
def Obligations.StepRunsDecodedInstruction : Prop :=
  ∀ (s s1 : State) (i : Instr), s.asleep = false → s.skipping = false → i.wellFormed = true →
    s.pc ≠ 0xFFFF#16 → s.holdsWord s.cs s.pc → (encode i)[0]? = some (s.peekWord s.cs s.pc) →
    (i.words = 1 → s1 = s.advancePc) →
    (i.words = 2 → s.advancePc.pc ≠ 0xFFFF#16 ∧ s.holdsWord s.advancePc.cs s.advancePc.pc ∧
      (encode i)[1]? = some (s.peekWord s.advancePc.cs s.advancePc.pc) ∧
      s1 = s.advancePc.advancePc) →
    (∀ t, exec i s1 = .next t →
      step s = .next (if t.skipping then t else t.boundary s.stepArmed)) ∧
    (∀ f, exec i s1 = .fault f → step s = .fault f) ∧
    (∀ r, exec i s1 = .refused r → step s = .refused r)

/-- The sleeping core: a hardware interrupt that is asserted while the gate is open is taken;
otherwise nothing changes but that one sample of the INT line has been used (46_special.md R211).
What wakes the core is the spec's own decision D25; the script of the INT line is the model's
choice (log 6). -/
def Obligations.SleepingCoreWakesOnlyOnTakenInterrupt : Prop :=
  ∀ s : State, s.asleep = true →
    (∀ m rest, s.hwInt = some m :: rest → s.ia ≠ 0#16 → s.flag .intf = false →
      ∃ t, step s = .next t ∧ t = (s.setHwInt rest).enter m ∧ t.asleep = false) ∧
    (∀ rest, s.hwInt = none :: rest → step s = .next (s.setHwInt rest)) ∧
    (s.hwInt = [] → step s = .next s) ∧
    ((s.ia = 0#16 ∨ s.flag .intf = true) → step s = .next (s.setHwInt s.hwInt.tail))

/-- Taking an interrupt. The frame is, from the top, PC, CS and R1; SP is six less; CS:PC is IS:IA,
IF is set, IACK is high, R1 holds the message and the core is awake; every other register, every
other flag, every byte of memory outside the frame, the script of the INT line and the mark of a skip
on its way are as they were. Which stack is used and the
widths are the spec's own decisions D38 and D1. -/
def Obligations.EnterSavesFrameAndVectors : Prop :=
  ∀ (s : State) (m : Word), s.ramWord s.ss (s.sp - 2#16) →
    s.ramWord s.ss (s.sp - 4#16) → s.ramWord s.ss (s.sp - 6#16) →
    (s.enter m).sp = s.sp - 6#16 ∧
    (s.enter m).stackWord (s.sp - 6#16) = s.pc ∧
    (s.enter m).stackWord (s.sp - 4#16) = s.cs ∧
    (s.enter m).stackWord (s.sp - 2#16) = s.reg 1 ∧
    (s.enter m).cs = s.is ∧ (s.enter m).pc = s.ia ∧
    (s.enter m).flag .intf = true ∧ FlagsKept [.intf] s (s.enter m) ∧
    (s.enter m).iack = true ∧ (s.enter m).reg 1 = m ∧ (s.enter m).asleep = false ∧
    (∀ r, r ≠ 1#4 → r ≠ 15#4 → (s.enter m).reg r = s.reg r) ∧
    (s.enter m).y = s.y ∧ (s.enter m).ia = s.ia ∧ (s.enter m).ds = s.ds ∧ (s.enter m).ss = s.ss ∧
    (s.enter m).is = s.is ∧ (s.enter m).cfg = s.cfg ∧ (s.enter m).hwInt = s.hwInt ∧
    (s.enter m).skipping = s.skipping ∧
    MemKeptOutside [phys s.ss (s.sp - 1#16), phys s.ss (s.sp - 2#16), phys s.ss (s.sp - 3#16),
      phys s.ss (s.sp - 4#16), phys s.ss (s.sp - 5#16), phys s.ss (s.sp - 6#16)] s (s.enter m) ∧
    EnvKept s (s.enter m)

/-- R254, for the instruction's own request, for single-step and for the INT line: taken if and
only if IA is not 0 and IF is 0, and otherwise dropped without a trace. What the gate is and that a
gated request is dropped are the spec's own decisions D19, D20 and D21. -/
def Obligations.RequestsAreTakenIffGateIsOpen : Prop :=
  ∀ s : State,
    (s.ia ≠ 0#16 → s.flag .intf = false →
      (∀ m, s.raise m = s.enter m) ∧ (∀ m, s.offer (some m) = s.enter m) ∧
      s.boundary true = (s.setHwInt s.hwInt.tail).enter 1) ∧
    ((s.ia = 0#16 ∨ s.flag .intf = true) →
      (∀ m, s.raise m = s) ∧ (∀ hw, s.offer hw = s) ∧
      (∀ armed, s.boundary armed = s.setHwInt s.hwInt.tail))

/-- At one boundary at most one interrupt is taken: the instruction's own one first, then
single-step, then the INT line; the losers are dropped. The order is the spec's own decision D24;
the place of the instruction's own interrupt is the model's choice (log 8). -/
def Obligations.BoundaryTakesAtMostOne : Prop :=
  ∀ (s : State) (m : Word), s.ia ≠ 0#16 → s.flag .intf = false →
    (∀ armed, (s.raise m).boundary armed = (s.enter m).setHwInt s.hwInt.tail) ∧
    (∀ hw rest, s.hwInt = hw :: rest → s.boundary true = (s.setHwInt rest).enter 1) ∧
    (∀ rest, s.hwInt = some m :: rest → s.boundary false = (s.setHwInt rest).enter m) ∧
    (∀ rest, s.hwInt = none :: rest → s.boundary false = s.setHwInt rest) ∧
    (s.hwInt = [] → s.boundary false = s)

/-- Single-step (60_exceptions.md R258): the condition TSS = 1 and IF = 0 is that of the state
before the fetch; the interrupt with message 1 follows the whole instruction, if the gate is open
then. When the condition is sampled is the spec's own decision D23. That an instruction has not
ended while its skip is on its way is the model's form of R262 (log 12). -/
def Obligations.SingleStepFollowsWholeInstruction : Prop :=
  ∀ (s s1 t : State) (i : Instr), s.asleep = false → s.skipping = false →
    s.fetchInstr = .ok (i, s1) → exec i s1 = .next t → t.skipping = false →
    (s.flag .tss = true → s.flag .intf = false → t.ia ≠ 0#16 → t.flag .intf = false →
      step s = .next ((t.setHwInt t.hwInt.tail).enter 1)) ∧
    ((s.flag .tss = false ∨ s.flag .intf = true) → t.hwInt = [] → step s = .next t)

/-- RFI restores exactly what entry saved: after the entry and an RFI, PC, CS, R1 and with them
every register are as before, IF is 0 and IACK is low. The order of the stacked bytes is the spec's
own decision D1. -/
def Obligations.RfiRestoresWhatEntrySaved : Prop :=
  ∀ (s : State) (m : Word), s.asleep = false → s.ramWord s.ss (s.sp - 2#16) →
    s.ramWord s.ss (s.sp - 4#16) → s.ramWord s.ss (s.sp - 6#16) →
    ∃ t, exec .rfi (s.enter m) = .next t ∧
      (∀ r, t.reg r = s.reg r) ∧ (∀ x, t.special x = s.special x) ∧
      t.flag .intf = false ∧ FlagsKept [.intf] s t ∧ t.iack = false ∧ t.asleep = false

/-- RFI (47_interrupt_instr.md R223): PC, CS and R1 are popped in that order, SP is six more, IF
and IACK are cleared, and nothing else changes. The order of the stacked bytes is the spec's own
decision D1. -/
def Obligations.RfiPopsPcCsAndR1 : Prop :=
  ∀ s : State, s.holdsWord s.ss s.sp → s.holdsWord s.ss (s.sp + 2#16) →
    s.holdsWord s.ss (s.sp + 4#16) →
    ∃ t, exec .rfi s = .next t ∧
      t.pc = s.stackWord s.sp ∧ t.cs = s.stackWord (s.sp + 2#16) ∧
      t.reg 1 = s.stackWord (s.sp + 4#16) ∧ t.sp = s.sp + 6#16 ∧
      t.flag .intf = false ∧ t.iack = false ∧ FlagsKept [.intf] s t ∧
      (∀ r, r ≠ 1#4 → r ≠ 15#4 → t.reg r = s.reg r) ∧
      (∀ x, x ≠ .pc → x ≠ .cs → t.special x = s.special x) ∧
      t.asleep = s.asleep ∧ t.cfg = s.cfg ∧ t.hwInt = s.hwInt ∧ t.skipping = s.skipping ∧
      MemKept s t ∧ EnvKept s t

/-- INT (47_interrupt_instr.md R220), the message from a register or a literal: with IA not 0 and
IF 0 the interrupt is taken with that message; otherwise nothing changes. That a gated INT is
dropped is the spec's own decision D19. -/
def Obligations.IntIsTakenOrDropped : Prop :=
  ∀ (s : State) (i : Instr) (m : Word), OperandForm s .intReg .intLit i m →
    (s.ia ≠ 0#16 → s.flag .intf = false →
      ∃ t, exec i s = .next t ∧ t = s.enter m ∧ t.reg 1 = m ∧ t.pc = s.ia ∧ t.cs = s.is) ∧
    (s.ia = 0#16 ∨ s.flag .intf = true → exec i s = .next s)

/-! ## Memory instructions -/

/-- LOAD (40_ram.md R100, R101): the segment is SS for a base field 14 or 15, else DS; the offset
is base plus index modulo 2^16; the register gets the word there, big-endian where RAM or ROM is
installed; devices have seen, and free values have been taken, as by that one read of the word. That the word may lie at an odd offset, and that its second byte is at the next offset of
the same segment even past 0xFFFF, is the spec's own decision D2; the kinds of location are D30
(log 17). -/
def Obligations.LoadReadsWordAtEffectiveAddress : Prop :=
  ∀ (s : State) (i : Instr) (r1 r3 : Reg) (b seg off : Word),
    OperandForm s (fun r2 => .loadReg r1 r2 r3) (fun l => .loadLit r1 l r3) i b →
    seg = (if r1 = 14#4 ∨ r1 = 15#4 then s.ss else s.ds) →
    off.toNat = ((s.reg r1).toNat + b.toNat) % 2 ^ 16 →
    ∃ t, exec i s = .next t ∧ t.reg r3 = (s.readWord seg off).1 ∧
      EnvKept (s.readWord seg off).2 t ∧ Kept [r3] [] s t ∧ FlagsKept [] s t ∧ MemKept s t ∧
      (s.holdsWord seg off →
        t.reg r3 = s.peek seg off ++ s.peek seg (off + 1#16) ∧ EnvKept s t)

/-- LOAD.B (40_ram.md R102): bits 7:0 of the register get the one byte at the effective address;
bits 15:8 are kept, or zero with LOADB_UPPER = zero; devices have seen, and free values have been
taken, as by that one read of the byte. Which byte is read and what becomes of bits
15:8 is the spec's own decision D16. -/
def Obligations.LoadByteReadsOneByte : Prop :=
  ∀ (s : State) (i : Instr) (r1 r3 : Reg) (b seg off : Word),
    OperandForm s (fun r2 => .loadBReg r1 r2 r3) (fun l => .loadBLit r1 l r3) i b →
    seg = (if r1 = 14#4 ∨ r1 = 15#4 then s.ss else s.ds) →
    off.toNat = ((s.reg r1).toNat + b.toNat) % 2 ^ 16 →
    ∃ t, exec i s = .next t ∧
      (t.reg r3).extractLsb' 0 8 = (s.readByte (phys seg off)).1 ∧
      (s.cfg.loadbUpper = .preserve →
        (t.reg r3).extractLsb' 8 8 = (s.reg r3).extractLsb' 8 8) ∧
      (s.cfg.loadbUpper = .zero → (t.reg r3).extractLsb' 8 8 = 0#8) ∧
      EnvKept (s.readByte (phys seg off)).2 t ∧ Kept [r3] [] s t ∧ FlagsKept [] s t ∧ MemKept s t ∧
      (s.holdsByte seg off → (t.reg r3).extractLsb' 0 8 = s.peek seg off ∧ EnvKept s t)

/-- STORE (40_ram.md R103): the register's high byte goes to the effective address and its low byte
to the next offset of the same segment, where RAM is installed; no register, no flag and no byte
outside those two changes. A device location is handed its byte, the lower one first, and the log of
device accesses gets nothing else. What a location that is not RAM does is the spec's own decision
D30; the log is the model's choice (log 5). -/
def Obligations.StoreWritesWordAtEffectiveAddress : Prop :=
  ∀ (s : State) (i : Instr) (r1 r3 : Reg) (b seg off : Word),
    OperandForm s (fun r2 => .storeReg r1 r2 r3) (fun l => .storeLit r1 l r3) i b →
    seg = (if r1 = 14#4 ∨ r1 = 15#4 then s.ss else s.ds) →
    off.toNat = ((s.reg r1).toNat + b.toNat) % 2 ^ 16 →
    ∃ t, exec i s = .next t ∧
      (s.kind (phys seg off) = .ram → t.peek seg off = (s.reg r3).extractLsb' 8 8) ∧
      (s.kind (phys seg (off + 1#16)) = .ram →
        t.peek seg (off + 1#16) = (s.reg r3).extractLsb' 0 8) ∧
      (∀ a, s.kind a ≠ .ram → t.mem.read a = s.mem.read a) ∧
      MemKeptOutside [phys seg off, phys seg (off + 1#16)] s t ∧
      t.busLog = s.handed (phys seg (off + 1#16)) ((s.reg r3).extractLsb' 0 8) ++
        (s.handed (phys seg off) ((s.reg r3).extractLsb' 8 8) ++ s.busLog) ∧
      t.devIn = s.devIn ∧ t.draws = s.draws ∧
      Kept [] [] s t ∧ FlagsKept [] s t ∧ (s.ramWord seg off → EnvKept s t)

/-- STORE.B (40_ram.md R104): the register's low byte goes to the one byte at the effective
address, where RAM is installed; the byte at the next offset is not touched. A device location is
handed that byte, and the log of device accesses gets nothing else. Which byte is written is the
spec's own decision D16, what a location that is not RAM does D30; the log is the model's choice
(log 5). -/
def Obligations.StoreByteWritesOneByte : Prop :=
  ∀ (s : State) (i : Instr) (r1 r3 : Reg) (b seg off : Word),
    OperandForm s (fun r2 => .storeBReg r1 r2 r3) (fun l => .storeBLit r1 l r3) i b →
    seg = (if r1 = 14#4 ∨ r1 = 15#4 then s.ss else s.ds) →
    off.toNat = ((s.reg r1).toNat + b.toNat) % 2 ^ 16 →
    ∃ t, exec i s = .next t ∧
      (s.kind (phys seg off) = .ram →
        t.peek seg off = (s.reg r3).extractLsb' 0 8 ∧ EnvKept s t) ∧
      (s.kind (phys seg off) ≠ .ram → t.mem.read (phys seg off) = s.mem.read (phys seg off)) ∧
      t.busLog = s.handed (phys seg off) ((s.reg r3).extractLsb' 0 8) ++ s.busLog ∧
      t.devIn = s.devIn ∧ t.draws = s.draws ∧
      MemKeptOutside [phys seg off] s t ∧ Kept [] [] s t ∧ FlagsKept [] s t

/-! ## Arithmetic -/

/-- ADD and ADDC (41_alu.md R110 to R112) when no overflow interrupt is taken: the sum modulo 2^16,
CF the carry out, OF the signed overflow. The meanings of CF and OF are the spec's own decisions D7
and D8. -/
def Obligations.AddGivesSumCarryAndOverflow : Prop :=
  ∀ (s : State) (i : Instr) (r3 : Reg) (b : Word) (cin : Nat),
    (OperandForm s (fun r2 => .addReg r2 r3) (fun l => .addLit l r3) i b ∧ cin = 0) ∨
      (∃ r2, i = .addc r2 r3 ∧ b = s.reg r2 ∧ cin = (s.flag .cf).toNat) →
    ¬((s.reg r3).toInt + b.toInt + cin < -32768 ∨ 32767 < (s.reg r3).toInt + b.toInt + cin) ∨
      s.flag .toe = false ∨ s.ia = 0#16 ∨ s.flag .intf = true →
    ∃ t, exec i s = .next t ∧
      (t.reg r3).toNat = ((s.reg r3).toNat + b.toNat + cin) % 2 ^ 16 ∧
      (t.flag .cf = true ↔ 0xFFFF < (s.reg r3).toNat + b.toNat + cin) ∧
      (t.flag .ovf = true ↔ (s.reg r3).toInt + b.toInt + cin < -32768 ∨
        32767 < (s.reg r3).toInt + b.toInt + cin) ∧
      OnlyChanges [r3] [.cf, .ovf] [] s t

/-- SUB and SUBB (41_alu.md R110, R113, R114) when no overflow interrupt is taken: the difference
modulo 2^16, CF the borrow, OF the signed overflow. The meanings of CF and OF are the spec's own
decisions D7 and D8. -/
def Obligations.SubGivesDifferenceBorrowAndOverflow : Prop :=
  ∀ (s : State) (i : Instr) (r3 : Reg) (b : Word) (bin : Nat),
    (OperandForm s (fun r2 => .subReg r2 r3) (fun l => .subLit l r3) i b ∧ bin = 0) ∨
      (OperandForm s (fun r2 => .subbReg r2 r3) (fun l => .subbLit l r3) i b ∧
        bin = (s.flag .cf).toNat) →
    ¬((s.reg r3).toInt - b.toInt - bin < -32768 ∨ 32767 < (s.reg r3).toInt - b.toInt - bin) ∨
      s.flag .toe = false ∨ s.ia = 0#16 ∨ s.flag .intf = true →
    ∃ t, exec i s = .next t ∧
      ((t.reg r3).toNat : Int) = ((s.reg r3).toNat - b.toNat - bin : Int) % 2 ^ 16 ∧
      (t.flag .cf = true ↔ (s.reg r3).toNat < b.toNat + bin) ∧
      (t.flag .ovf = true ↔ (s.reg r3).toInt - b.toInt - bin < -32768 ∨
        32767 < (s.reg r3).toInt - b.toInt - bin) ∧
      OnlyChanges [r3] [.cf, .ovf] [] s t

/-- The overflow interrupt (60_exceptions.md R257): with TOE set and the gate open, a signed
overflow of ADD, ADDC, SUB or SUBB is followed by the entry with message 4, after the result, CF
(the carry or the borrow) and OF have been written; `exact` is the signed sum or difference and
`wide` the unsigned one. When it is taken and what CF and OF mean are the spec's own decisions D22,
D7 and D8; that exec takes it is the model's choice (log 8). -/
def Obligations.OverflowWithToeEntersWithMessageFour : Prop :=
  ∀ (s : State) (i : Instr) (r3 : Reg) (b : Word) (exact wide : Int),
    (OperandForm s (fun r2 => .addReg r2 r3) (fun l => .addLit l r3) i b ∧
        exact = (s.reg r3).toInt + b.toInt ∧ wide = (s.reg r3).toNat + b.toNat) ∨
      (∃ r2, i = .addc r2 r3 ∧ b = s.reg r2 ∧
        exact = (s.reg r3).toInt + b.toInt + (s.flag .cf).toInt ∧
        wide = (s.reg r3).toNat + b.toNat + (s.flag .cf).toNat) ∨
      (OperandForm s (fun r2 => .subReg r2 r3) (fun l => .subLit l r3) i b ∧
        exact = (s.reg r3).toInt - b.toInt ∧ wide = (s.reg r3).toNat - b.toNat) ∨
      (OperandForm s (fun r2 => .subbReg r2 r3) (fun l => .subbLit l r3) i b ∧
        exact = (s.reg r3).toInt - b.toInt - (s.flag .cf).toInt ∧
        wide = (s.reg r3).toNat - b.toNat - (s.flag .cf).toNat) →
    exact < -32768 ∨ 32767 < exact → s.flag .toe = true → s.ia ≠ 0#16 → s.flag .intf = false →
    ∃ u, exec i s = .next (u.enter 4) ∧ u.reg r3 = BitVec.ofInt 16 exact ∧
      (u.flag .cf = true ↔ wide < 0 ∨ 0xFFFF < wide) ∧ u.flag .ovf = true ∧
      OnlyChanges [r3] [.cf, .ovf] [] s u

/-- UMUL and MUL (41_alu.md R115, R116): Y and the register hold the exact 32-bit product, high
half and low half; no flag changes. That no flag is written is the spec's own decision D9. -/
def Obligations.MultiplyIsExactAcrossYAndReg : Prop :=
  ∀ (s : State) (i : Instr) (r3 : Reg) (b : Word),
    (OperandForm s (fun r2 => .umulReg r2 r3) (fun l => .umulLit l r3) i b →
      ∃ t, exec i s = .next t ∧
        t.y.toNat * 2 ^ 16 + (t.reg r3).toNat = (s.reg r3).toNat * b.toNat ∧
        OnlyChanges [r3] [] [.y] s t) ∧
    (OperandForm s (fun r2 => .mulReg r2 r3) (fun l => .mulLit l r3) i b →
      ∃ t, exec i s = .next t ∧
        (t.y ++ t.reg r3 : BitVec 32).toInt = (s.reg r3).toInt * b.toInt ∧
        OnlyChanges [r3] [] [.y] s t)

/-- UDIV and DIV (41_alu.md R118, R119) by a divisor that is not 0: the quotient of Y:REG3,
unsigned, or signed and truncated toward zero, in Y and the register; -2^31 / -1 gives 0x80000000;
DE is cleared. The rounding, -2^31 / -1 and the clearing of DE are the spec's own decisions D12 and
D10. -/
def Obligations.DivideGivesQuotientAcrossYAndReg : Prop :=
  ∀ (s : State) (i : Instr) (r3 : Reg) (b : Word), b ≠ 0#16 →
    (OperandForm s (fun r2 => .udivReg r2 r3) (fun l => .udivLit l r3) i b →
      ∃ t, exec i s = .next t ∧
        t.y.toNat * 2 ^ 16 + (t.reg r3).toNat =
          (s.y.toNat * 2 ^ 16 + (s.reg r3).toNat) / b.toNat ∧
        t.flag .de = false ∧ OnlyChanges [r3] [.de] [.y] s t) ∧
    (OperandForm s (fun r2 => .divReg r2 r3) (fun l => .divLit l r3) i b →
      ∃ t, exec i s = .next t ∧
        ((s.y ++ s.reg r3 : BitVec 32) = 0x80000000#32 ∧ b = 0xFFFF#16 →
          (t.y ++ t.reg r3 : BitVec 32) = 0x80000000#32) ∧
        (¬((s.y ++ s.reg r3 : BitVec 32) = 0x80000000#32 ∧ b = 0xFFFF#16) →
          (t.y ++ t.reg r3 : BitVec 32).toInt = (s.y ++ s.reg r3 : BitVec 32).toInt.tdiv b.toInt) ∧
        t.flag .de = false ∧ OnlyChanges [r3] [.de] [.y] s t)

/-- UMOD and MOD (41_alu.md R120, R121) by a divisor that is not 0: the remainder of Y:REG3,
unsigned, or signed with the sign of the dividend, in the register; Y is kept; DE is cleared. The
sign, the keeping of Y and the clearing of DE are the spec's own decisions D12, D13 and D10. -/
def Obligations.RemainderKeepsY : Prop :=
  ∀ (s : State) (i : Instr) (r3 : Reg) (b : Word), b ≠ 0#16 →
    (OperandForm s (fun r2 => .umodReg r2 r3) (fun l => .umodLit l r3) i b →
      ∃ t, exec i s = .next t ∧
        (t.reg r3).toNat = (s.y.toNat * 2 ^ 16 + (s.reg r3).toNat) % b.toNat ∧
        t.flag .de = false ∧ OnlyChanges [r3] [.de] [] s t) ∧
    (OperandForm s (fun r2 => .modReg r2 r3) (fun l => .modLit l r3) i b →
      ∃ t, exec i s = .next t ∧
        (t.reg r3).toInt = (s.y ++ s.reg r3 : BitVec 32).toInt.tmod b.toInt ∧
        t.flag .de = false ∧ OnlyChanges [r3] [.de] [] s t)

/-- A division by zero (41_alu.md R117) when no division-error interrupt is taken: DE is set and
the machine goes on; Y and the register hold any value after DIV and UDIV, only the register after
MOD and UMOD. Nothing is said of those values. What a division error is and leaves are the spec's
own decisions D10 and D11; the form of the open value is the model's choice (log 7). -/
def Obligations.DivisionByZeroSetsDeAndGoesOn : Prop :=
  ∀ (s : State) (i : Instr) (r3 : Reg),
    s.flag .tde = false ∨ s.ia = 0#16 ∨ s.flag .intf = true →
    (OperandForm s (fun r2 => .udivReg r2 r3) (fun l => .udivLit l r3) i 0 ∨
      OperandForm s (fun r2 => .divReg r2 r3) (fun l => .divLit l r3) i 0 →
      ∃ t, exec i s = .next t ∧ t.flag .de = true ∧ Kept [r3] [.y] s t ∧ FlagsKept [.de] s t ∧
        MemKept s t ∧ t.devIn = s.devIn ∧ t.busLog = s.busLog) ∧
    (OperandForm s (fun r2 => .umodReg r2 r3) (fun l => .umodLit l r3) i 0 ∨
      OperandForm s (fun r2 => .modReg r2 r3) (fun l => .modLit l r3) i 0 →
      ∃ t, exec i s = .next t ∧ t.flag .de = true ∧ Kept [r3] [] s t ∧ FlagsKept [.de] s t ∧
        MemKept s t ∧ t.devIn = s.devIn ∧ t.busLog = s.busLog)

/-- The division-error interrupt (60_exceptions.md R257): with TDE set and the gate open, a
division by zero is followed by the entry with message 0, after DE has been set; before the entry, Y
and the register hold any value after DIV and UDIV, only the register after MOD and UMOD
(41_alu.md R117), and no device has been accessed. What a division error is and leaves and when the
interrupt is taken are the spec's own decisions D10, D11 and D22; that exec takes it, and the form of
the open value, are the model's choice (logs 7 and 8). -/
def Obligations.DivisionErrorWithTdeEntersWithMessageZero : Prop :=
  ∀ (s : State) (i : Instr) (r3 : Reg),
    s.flag .tde = true → s.ia ≠ 0#16 → s.flag .intf = false →
    (OperandForm s (fun r2 => .udivReg r2 r3) (fun l => .udivLit l r3) i 0 ∨
      OperandForm s (fun r2 => .divReg r2 r3) (fun l => .divLit l r3) i 0 →
      ∃ u, exec i s = .next (u.enter 0) ∧ u.flag .de = true ∧ Kept [r3] [.y] s u ∧
        FlagsKept [.de] s u ∧ MemKept s u ∧ u.devIn = s.devIn ∧ u.busLog = s.busLog) ∧
    (OperandForm s (fun r2 => .umodReg r2 r3) (fun l => .umodLit l r3) i 0 ∨
      OperandForm s (fun r2 => .modReg r2 r3) (fun l => .modLit l r3) i 0 →
      ∃ u, exec i s = .next (u.enter 0) ∧ u.flag .de = true ∧ Kept [r3] [] s u ∧
        FlagsKept [.de] s u ∧ MemKept s u ∧ u.devIn = s.devIn ∧ u.busLog = s.busLog)

/-- NOT, NEG, AND, OR and XOR (41_alu.md R122 to R126), bit by bit, NEG modulo 2^16; no flag
changes. That no flag is written is the spec's own decision D9. -/
def Obligations.NotNegAndLogicWriteNoFlag : Prop :=
  ∀ (s : State) (r2 r3 : Reg),
    (∃ t, exec (.not r3) s = .next t ∧ OnlyChanges [r3] [] [] s t ∧
      ∀ k, k < 16 → (t.reg r3).getLsbD k = !(s.reg r3).getLsbD k) ∧
    (∃ t, exec (.neg r3) s = .next t ∧ OnlyChanges [r3] [] [] s t ∧
      ((t.reg r3).toNat + (s.reg r3).toNat) % 2 ^ 16 = 0) ∧
    (∃ t, exec (.and r2 r3) s = .next t ∧ OnlyChanges [r3] [] [] s t ∧
      ∀ k, (t.reg r3).getLsbD k = ((s.reg r3).getLsbD k && (s.reg r2).getLsbD k)) ∧
    (∃ t, exec (.or r2 r3) s = .next t ∧ OnlyChanges [r3] [] [] s t ∧
      ∀ k, (t.reg r3).getLsbD k = ((s.reg r3).getLsbD k || (s.reg r2).getLsbD k)) ∧
    (∃ t, exec (.xor r2 r3) s = .next t ∧ OnlyChanges [r3] [] [] s t ∧
      ∀ k, (t.reg r3).getLsbD k = ((s.reg r3).getLsbD k ^^ (s.reg r2).getLsbD k))

/-- SLL (41_alu.md R127, R128), on unbounded integers: the register gets `a * 2^n` modulo 2^16 and
CF its bit 16; the amount is the whole operand, or its low four bits with SHIFT_BIG = mask4. The
range of the amount is the spec's own decision D14. -/
def Obligations.ShiftLeftOnUnboundedIntegers : Prop :=
  ∀ (s : State) (i : Instr) (r3 : Reg) (b : Word) (n : Nat),
    OperandForm s (fun r2 => .sllReg r2 r3) (fun l => .sllLit l r3) i b →
    n = (if s.cfg.shiftBig = .fullValue then b.toNat else b.toNat % 16) →
    ∃ t, exec i s = .next t ∧
      (t.reg r3).toNat = (s.reg r3).toNat * 2 ^ n % 2 ^ 16 ∧
      t.flag .cf = ((s.reg r3).toNat * 2 ^ n).testBit 16 ∧
      OnlyChanges [r3] [.cf] [] s t

/-- SRL (41_alu.md R127, R129): the register gets `a / 2^n` rounded down; CF is the last bit
shifted out, 0 when n is 0 or above 16. The range of the amount is the spec's own decision D14. -/
def Obligations.ShiftRightLogicalDivides : Prop :=
  ∀ (s : State) (i : Instr) (r3 : Reg) (b : Word) (n : Nat),
    OperandForm s (fun r2 => .srlReg r2 r3) (fun l => .srlLit l r3) i b →
    n = (if s.cfg.shiftBig = .fullValue then b.toNat else b.toNat % 16) →
    ∃ t, exec i s = .next t ∧
      (t.reg r3).toNat = (s.reg r3).toNat / 2 ^ n ∧
      (t.flag .cf = true ↔ 1 ≤ n ∧ n ≤ 16 ∧ (s.reg r3).toNat.testBit (n - 1) = true) ∧
      OnlyChanges [r3] [.cf] [] s t

/-- SRA (41_alu.md R127, R130): the register gets the signed `a / 2^n` rounded toward minus
infinity; CF is 0 for n = 0, the last bit shifted out for n up to 16, the sign beyond. The range of
the amount is the spec's own decision D14. -/
def Obligations.ShiftRightArithmeticFloors : Prop :=
  ∀ (s : State) (i : Instr) (r3 : Reg) (b : Word) (n : Nat),
    OperandForm s (fun r2 => .sraReg r2 r3) (fun l => .sraLit l r3) i b →
    n = (if s.cfg.shiftBig = .fullValue then b.toNat else b.toNat % 16) →
    ∃ t, exec i s = .next t ∧
      (t.reg r3).toInt = (s.reg r3).toInt / 2 ^ n ∧
      (t.flag .cf = true ↔ (1 ≤ n ∧ n ≤ 16 ∧ (s.reg r3).toNat.testBit (n - 1) = true) ∨
        (16 < n ∧ (s.reg r3).toInt < 0)) ∧
      OnlyChanges [r3] [.cf] [] s t

/-- ROTL and ROTR (41_alu.md R127, R131, R132): bit k goes to bit k + n modulo 16, or comes from
there; the amount is the operand modulo 16; no flag changes. The amount modulo 16 and the flags are
the spec's own decision D15. -/
def Obligations.RotatesMoveEveryBit : Prop :=
  ∀ (s : State) (i : Instr) (r3 : Reg) (b : Word),
    (OperandForm s (fun r2 => .rotlReg r2 r3) (fun l => .rotlLit l r3) i b →
      ∃ t, exec i s = .next t ∧ OnlyChanges [r3] [] [] s t ∧
        ∀ k, k < 16 → (t.reg r3).getLsbD ((k + b.toNat) % 16) = (s.reg r3).getLsbD k) ∧
    (OperandForm s (fun r2 => .rotrReg r2 r3) (fun l => .rotrLit l r3) i b →
      ∃ t, exec i s = .next t ∧ OnlyChanges [r3] [] [] s t ∧
        ∀ k, k < 16 → (t.reg r3).getLsbD k = (s.reg r3).getLsbD ((k + b.toNat) % 16))

/-! ## Moves between registers -/

/-- SWP, CPY, SET, XCHG and SXTBD (43_register.md R180 to R184). -/
def Obligations.RegisterMovesWriteOnlyTheirRegisters : Prop :=
  ∀ (s : State) (r2 r3 : Reg) (l : Lit),
    (∃ t, exec (.swp r2 r3) s = .next t ∧ t.reg r3 = s.reg r2 ∧ t.reg r2 = s.reg r3 ∧
      OnlyChanges [r2, r3] [] [] s t) ∧
    (∃ t, exec (.cpy r2 r3) s = .next t ∧ t.reg r3 = s.reg r2 ∧ OnlyChanges [r3] [] [] s t) ∧
    (∃ t, exec (.set l r3) s = .next t ∧
      (∀ n, l = .short n → (t.reg r3).toNat = n.toNat) ∧ (∀ v, l = .ext v → t.reg r3 = v) ∧
      OnlyChanges [r3] [] [] s t) ∧
    (∃ t, exec (.xchg r3) s = .next t ∧
      (t.reg r3).extractLsb' 8 8 = (s.reg r3).extractLsb' 0 8 ∧
      (t.reg r3).extractLsb' 0 8 = (s.reg r3).extractLsb' 8 8 ∧ OnlyChanges [r3] [] [] s t) ∧
    (∃ t, exec (.sxtbd r3) s = .next t ∧
      (t.reg r3).toInt = ((s.reg r3).extractLsb' 0 8).toInt ∧ OnlyChanges [r3] [] [] s t)

/-- NOP, GETPC, GETFLAGS, GETY, SETY, GETIA and SETIA (46_special.md R210, R212, R214 to R216,
47_interrupt_instr.md R221, R222). That GETPC reads PC past its own word is the spec's own decision
D3. -/
def Obligations.SpecialMovesWriteOnlyTheirTarget : Prop :=
  ∀ (s : State) (r3 : Reg) (i : Instr) (b : Word),
    (∃ t, exec .nop s = .next t ∧ OnlyChanges [] [] [] s t) ∧
    (∃ t, exec (.getpc r3) s = .next t ∧ t.reg r3 = s.pc ∧ OnlyChanges [r3] [] [] s t) ∧
    (∃ t, exec (.getflags r3) s = .next t ∧ t.reg r3 = s.flags ∧ OnlyChanges [r3] [] [] s t) ∧
    (∃ t, exec (.gety r3) s = .next t ∧ t.reg r3 = s.y ∧ OnlyChanges [r3] [] [] s t) ∧
    (∃ t, exec (.getia r3) s = .next t ∧ t.reg r3 = s.ia ∧ OnlyChanges [r3] [] [] s t) ∧
    (OperandForm s .setyReg .setyLit i b →
      ∃ t, exec i s = .next t ∧ t.y = b ∧ OnlyChanges [] [] [.y] s t) ∧
    (OperandForm s .setiaReg .setiaLit i b →
      ∃ t, exec i s = .next t ∧ t.ia = b ∧ OnlyChanges [] [] [.ia] s t)

/-- SLEEP puts the core to sleep and SETFLAGS writes all sixteen bits of FLAGS; each changes
nothing else (46_special.md R211, R213). With RESERVED_FLAGS = refuse, a SETFLAGS that would set a
reserved bit is refused. What the reserved bits do is the spec's own decision D28. -/
def Obligations.SleepAndSetflags : Prop :=
  ∀ (s : State) (r3 : Reg),
    (∃ t, exec .sleep s = .next t ∧ t.asleep = true ∧ t.setAsleep s.asleep = s) ∧
    (s.cfg.reservedFlags = .store ∨ s.reg r3 &&& 0xF8F0#16 = 0#16 →
      ∃ t, exec (.setflags r3) s = .next t ∧ t.flags = s.reg r3 ∧ Kept [] [] s t ∧ MemKept s t ∧
        EnvKept s t) ∧
    (s.cfg.reservedFlags = .refuse ∧ s.reg r3 &&& 0xF8F0#16 ≠ 0#16 →
      exec (.setflags r3) s = .refused .reservedFlags)

/-- The twelve segment register instructions move all sixteen bits (49_segment.md R235 to R242).
That they are plain moves is the spec's own decision D42. -/
def Obligations.SegmentMovesWriteOnlyTheirTarget : Prop :=
  ∀ (s : State) (r3 : Reg) (i : Instr) (b : Word),
    (OperandForm s .setcsReg .setcsLit i b →
      ∃ t, exec i s = .next t ∧ t.cs = b ∧ OnlyChanges [] [] [.cs] s t) ∧
    (OperandForm s .setdsReg .setdsLit i b →
      ∃ t, exec i s = .next t ∧ t.ds = b ∧ OnlyChanges [] [] [.ds] s t) ∧
    (OperandForm s .setssReg .setssLit i b →
      ∃ t, exec i s = .next t ∧ t.ss = b ∧ OnlyChanges [] [] [.ss] s t) ∧
    (OperandForm s .setisReg .setisLit i b →
      ∃ t, exec i s = .next t ∧ t.is = b ∧ OnlyChanges [] [] [.is] s t) ∧
    (∃ t, exec (.getcs r3) s = .next t ∧ t.reg r3 = s.cs ∧ OnlyChanges [r3] [] [] s t) ∧
    (∃ t, exec (.getds r3) s = .next t ∧ t.reg r3 = s.ds ∧ OnlyChanges [r3] [] [] s t) ∧
    (∃ t, exec (.getss r3) s = .next t ∧ t.reg r3 = s.ss ∧ OnlyChanges [r3] [] [] s t) ∧
    (∃ t, exec (.getis r3) s = .next t ∧ t.reg r3 = s.is ∧ OnlyChanges [r3] [] [] s t)

/-! ## Conditional instructions -/

/-- A conditional instruction whose test holds changes nothing: the next instruction runs
(42_branch.md R160, R162 to R171). What a conditional does is the spec's own decision D17. -/
def Obligations.TestThatHoldsChangesNothing : Prop :=
  ∀ (s : State) (i : Instr) (P : Prop), TestOf s i P → P → exec i s = .next s

/-- A conditional instruction whose test fails in front of an instruction that is not conditional
skips that one, both words of a two-word one, and changes nothing else (42_branch.md R160, R161).
What a conditional does is the spec's own decision D17; the extension word is passed over unread
(log 11). -/
def Obligations.TestThatFailsSkipsNextInstruction : Prop :=
  ∀ (s : State) (i j : Instr) (P : Prop), TestOf s i P → ¬P →
    s.pc ≠ 0xFFFF#16 → s.holdsWord s.cs s.pc → decodeWords (s.peekWord s.cs s.pc) 0#16 = .ok j →
    j.isConditional = false → (j.words = 2 → s.pc + 2#16 ≠ 0xFFFF#16) →
    ∃ t, exec i s = .next t ∧
      t.pc = (if j.words = 2 then s.pc + 4#16 else s.pc + 2#16) ∧
      t.cs = (if 2 ^ 16 ≤ s.pc.toNat + 2 * j.words then s.cs + 1#16 else s.cs) ∧
      OnlyChanges [] [] [.pc, .cs] s t

/-- A failed test passes over the whole chain in front of it, however long (42_branch.md R161). In the
step of the conditional instruction itself, the chain ends after an instruction that is not
conditional, or the step has passed 2^20 conditional ones and the skip is on its way; a skip on its
way that ends after `n` instructions more does so in the next `n / 2^20` steps, rounded up, with one
boundary, at its end. The skip differs in nothing but PC and CS, and what reading device or absent
locations changes. What a conditional does is the spec's own decision D17. The model's own inferences
and choices are that a word to be skipped at PC = 0xFFFF, first word or extension word, is refused
(log 10), that the extension word is passed over unread (log 11), and the 2^20 instructions of a step
(log 12). -/
def Obligations.TestThatFailsPassesWholeChain : Prop :=
  (∀ (s : State) (i : Instr) (P : Prop), TestOf s i P → ¬P →
    ∀ t, exec i s = .next t ↔ (∃ n, n ≤ 2 ^ 20 ∧ SkipsOver n s t) ∨
      ∃ u, PassesConditionals (2 ^ 20) s u ∧ t = u.setSkipping true) ∧
  (∀ (s t : State) (n : Nat), s.asleep = false → s.skipping = true →
    SkipsOver n (s.setSkipping false) t →
    core.run ((n - 1) / 2 ^ 20 + 1) s = .next (t.boundary s.stepArmed)) ∧
  (∀ (s t : State) (n : Nat), SkipsOver n s t →
    Kept [] [.pc, .cs] s t ∧ FlagsKept [] s t ∧ MemKept s t)

/-! ## Input and output -/

/-- INP (48_io.md R230): one read of the port in the operand's low eight bits is performed, and the
register gets the environment's answer, all sixteen bits of it. The widths are the spec's own
decision D18; the script of answers is the model's choice (log 5). -/
def Obligations.InpReadsPortOnce : Prop :=
  ∀ (s : State) (i : Instr) (r3 : Reg) (b : Word),
    OperandForm s (fun r2 => .inpReg r2 r3) (fun l => .inpLit l r3) i b →
    ∃ t, exec i s = .next t ∧
      t.busLog = .ioRead (b.extractLsb' 0 8) (t.reg r3) :: s.busLog ∧
      (∀ v rest, s.devIn = v :: rest → t.reg r3 = v ∧ t.devIn = rest ∧ t.draws = s.draws) ∧
      (s.devIn = [] → t.devIn = []) ∧
      Kept [r3] [] s t ∧ FlagsKept [] s t ∧ MemKept s t

/-- OUT (48_io.md R231): one write of all sixteen bits of the register to the port in the operand's
low eight bits is performed; no register, flag or memory byte changes. The widths are the spec's
own decision D18; the log of accesses is the model's choice (log 5). -/
def Obligations.OutWritesPortOnce : Prop :=
  ∀ (s : State) (i : Instr) (r3 : Reg) (b : Word),
    OperandForm s (fun r2 => .outReg r2 r3) (fun l => .outLit l r3) i b →
    ∃ t, exec i s = .next t ∧
      t.busLog = .ioWrite (b.extractLsb' 0 8) (s.reg r3) :: s.busLog ∧
      Kept [] [] s t ∧ FlagsKept [] s t ∧ MemKept s t ∧ t.devIn = s.devIn ∧ t.draws = s.draws

/-! ## Jumps, calls, returns, the stack instructions -/

/-- JMP absolute goes to register plus literal modulo 2^16 in the same segment; LJMP loads CS and
PC (44_jump.md R190, R194). That the absolute target wraps is the spec's own decision D6. -/
def Obligations.AbsoluteAndLongJumps : Prop :=
  ∀ (s : State) (l : Lit) (r2 r3 : Reg),
    (∃ t, exec (.jmpAbs l r3) s = .next t ∧
      t.pc.toNat = ((s.reg r3).toNat + (litValue l).toNat) % 2 ^ 16 ∧
      OnlyChanges [] [] [.pc] s t) ∧
    (∃ t, exec (.ljmp r2 r3) s = .next t ∧ t.cs = s.reg r3 ∧ t.pc = s.reg r2 ∧
      OnlyChanges [] [] [.pc, .cs] s t)

/-- JMP relative (44_jump.md R192): `npc` plus the signed displacement, crossing into the next or
the previous segment past either end. That PC is `npc` there is the spec's own decision D3, the
unscaled byte displacement D4, CS modulo 2^16 D34; that the source's "CS+offset < 0xFFFF" means
"PC+offset < 0" is the choice of 90_conflicts.md C10 (log 17). -/
def Obligations.RelativeJumpCrossesSegments : Prop :=
  ∀ (s : State) (off : BitVec 9),
    ∃ t, exec (.jmpRel off) s = .next t ∧
      (0xFFFF < s.pc.toNat + off.toInt →
        (t.pc.toNat : Int) = s.pc.toNat + off.toInt - 0x10000 ∧ t.cs = s.cs + 1#16) ∧
      (s.pc.toNat + off.toInt < 0 →
        (t.pc.toNat : Int) = s.pc.toNat + off.toInt + 0x10000 ∧ t.cs = s.cs - 1#16) ∧
      (0 ≤ s.pc.toNat + off.toInt → s.pc.toNat + off.toInt ≤ 0xFFFF →
        (t.pc.toNat : Int) = s.pc.toNat + off.toInt ∧ t.cs = s.cs) ∧
      OnlyChanges [] [] [.pc, .cs] s t

/-- The calls (44_jump.md R191, R193, R195): CALL pushes `npc` and goes to its target in the same
segment, formed from the registers before the push; LCALL pushes CS, then `npc`, and loads CS and
PC. Memory changes in the pushed words only. The wrapping targets, the old registers and the
stacked bytes are the spec's own decisions D5, D6, D33 and D1. -/
def Obligations.CallsPushReturnAddress : Prop :=
  ∀ (s : State) (l : Lit) (r2 r3 : Reg) (off : BitVec 9),
    (∃ t, exec (.callAbs l r3) s = .next t ∧
      t.pc.toNat = ((s.reg r3).toNat + (litValue l).toNat) % 2 ^ 16 ∧ t.sp = s.sp - 2#16 ∧
      (s.ramWord s.ss (s.sp - 2#16) → t.stackWord (s.sp - 2#16) = s.pc ∧ EnvKept s t) ∧
      MemKeptOutside [phys s.ss (s.sp - 2#16), phys s.ss (s.sp - 1#16)] s t ∧
      Kept [15] [.pc] s t ∧ FlagsKept [] s t) ∧
    (∃ t, exec (.callRel off) s = .next t ∧
      (t.pc.toNat : Int) = (s.pc.toNat + off.toInt) % 2 ^ 16 ∧ t.sp = s.sp - 2#16 ∧
      (s.ramWord s.ss (s.sp - 2#16) → t.stackWord (s.sp - 2#16) = s.pc ∧ EnvKept s t) ∧
      MemKeptOutside [phys s.ss (s.sp - 2#16), phys s.ss (s.sp - 1#16)] s t ∧
      Kept [15] [.pc] s t ∧ FlagsKept [] s t) ∧
    (∃ t, exec (.lcall r2 r3) s = .next t ∧
      t.cs = s.reg r3 ∧ t.pc = s.reg r2 ∧ t.sp = s.sp - 4#16 ∧
      (s.ramWord s.ss (s.sp - 2#16) → s.ramWord s.ss (s.sp - 4#16) →
        t.stackWord (s.sp - 2#16) = s.cs ∧ t.stackWord (s.sp - 4#16) = s.pc ∧ EnvKept s t) ∧
      MemKeptOutside [phys s.ss (s.sp - 4#16), phys s.ss (s.sp - 3#16), phys s.ss (s.sp - 2#16),
        phys s.ss (s.sp - 1#16)] s t ∧
      Kept [15] [.pc, .cs] s t ∧ FlagsKept [] s t)

/-- RET pops PC, LRET pops PC and then CS (44_jump.md R196, R197); memory is not changed. The order
of the stacked bytes is the spec's own decision D1. -/
def Obligations.ReturnsPopTheirTarget : Prop :=
  ∀ s : State,
    (∃ t, exec .ret s = .next t ∧ t.pc = s.pop16.1 ∧ t.sp = s.sp + 2#16 ∧
      (s.holdsWord s.ss s.sp → t.pc = s.stackWord s.sp ∧ EnvKept s t) ∧
      Kept [15] [.pc] s t ∧ FlagsKept [] s t ∧ MemKept s t) ∧
    (∃ t, exec .lret s = .next t ∧ t.pc = s.pop16.1 ∧ t.sp = s.sp + 4#16 ∧
      (s.holdsWord s.ss s.sp → s.holdsWord s.ss (s.sp + 2#16) →
        t.pc = s.stackWord s.sp ∧ t.cs = s.stackWord (s.sp + 2#16) ∧ EnvKept s t) ∧
      Kept [15] [.pc, .cs] s t ∧ FlagsKept [] s t ∧ MemKept s t)

/-- A return right after the call it matches comes back to the instruction after the call with
every register as it was (44_jump.md R198, R199): CALL with RET, LCALL with LRET. The stacked bytes
and PC being past the call are the spec's own decisions D1 and D3. -/
def Obligations.ReturnUndoesCall : Prop :=
  ∀ (s : State) (l : Lit) (r2 r3 : Reg) (off : BitVec 9),
    s.ramWord s.ss (s.sp - 2#16) → s.ramWord s.ss (s.sp - 4#16) →
    (∃ t u, exec (.callAbs l r3) s = .next t ∧ exec .ret t = .next u ∧
      Kept [] [] s u ∧ FlagsKept [] s u ∧ EnvKept s u) ∧
    (∃ t u, exec (.callRel off) s = .next t ∧ exec .ret t = .next u ∧
      Kept [] [] s u ∧ FlagsKept [] s u ∧ EnvKept s u) ∧
    (∃ t u, exec (.lcall r2 r3) s = .next t ∧ exec .lret t = .next u ∧
      Kept [] [] s u ∧ FlagsKept [] s u ∧ EnvKept s u)

/-- PUSH and POP (45_stack.md R205, R206): PUSH stores the register's value, SP's old one for PUSH
SP; POP writes the register last, so that POP SP ends with the popped word. The old SP, the order
of the writes and the stacked bytes are the spec's own decisions D33 and D1. -/
def Obligations.PushAndPopMoveOneWord : Prop :=
  ∀ (s : State) (r3 : Reg),
    (∃ t, exec (.push r3) s = .next t ∧ t.sp = s.sp - 2#16 ∧
      (s.ramWord s.ss (s.sp - 2#16) → t.stackWord (s.sp - 2#16) = s.reg r3 ∧ EnvKept s t) ∧
      MemKeptOutside [phys s.ss (s.sp - 2#16), phys s.ss (s.sp - 1#16)] s t ∧
      Kept [15] [] s t ∧ FlagsKept [] s t) ∧
    (∃ t, exec (.pop r3) s = .next t ∧ t.reg r3 = s.pop16.1 ∧
      (r3 ≠ 15#4 → t.sp = s.sp + 2#16) ∧
      (s.holdsWord s.ss s.sp → t.reg r3 = s.stackWord s.sp ∧ EnvKept s t) ∧
      Kept [r3, 15] [] s t ∧ FlagsKept [] s t ∧ MemKept s t)

/-! ## The whole machine -/

/-- Every step keeps the canonical form of memory, from every state that has it, and the parameters
of the implementation. The form is the model's own (log 2), and so is holding the parameters in the
state (log 1). -/
def Obligations.StepKeepsCanonicalMemory : Prop :=
  ∀ s t : State, s.mem.wf = true → step s = .next t → t.mem.wf = true ∧ t.cfg = s.cfg

/-- What the spec's decision D29 puts where the source states no reset value: the core is awake, IACK
is low, and no byte of memory is known (70_reset_and_hazards.md R291), which is a list in canonical
form (log 2). That no skip is on its way is the model's choice (log 12). -/
def Obligations.ResetLeavesCoreAwakeAndMemoryUnknown : Prop :=
  State.reset.asleep = false ∧ State.reset.iack = false ∧
  State.reset.skipping = false ∧ State.reset.mem.wf = true ∧ ∀ a, State.reset.mem.lookup a = none

/-- The initial state (70_reset_and_hazards.md R290, R291): whatever image MEM_INIT names, each of
its bytes is at its address, every other byte is unknown, memory is in canonical form, every
register is 0, and the other parameters are as given. That the other bytes are unknown is the spec's
own decision D29; the form of the parameters and of what is unknown, and that no skip is on its way,
are the model's choice (logs 1, 2, 5, 6 and 12). -/
def Obligations.InitialStateHoldsTheImageAndNothingElse : Prop :=
  ∀ (c : Config) (image : List Host.Cell) (ioDev : List Word) (hwInt : List (Option Word)) (s : State),
    (∀ p ∈ image, p.1 < 2 ^ 20) → (image.map Prod.fst).Nodup →
    s = State.initial c image ioDev hwInt →
    (∀ p ∈ image, s.mem.lookup p.1 = some p.2 ∧ s.mem.read p.1 = p.2) ∧
    (∀ a, a ∉ image.map Prod.fst → s.mem.lookup a = none) ∧ s.mem.wf = true ∧
    (∀ r, s.reg r = 0#16) ∧ (∀ x, s.special x = 0#16) ∧ s.flags = 0#16 ∧
    s.asleep = false ∧ s.iack = false ∧ s.skipping = false ∧
    s.cfg = c ∧ s.devIn = ioDev ∧ s.hwInt = hwInt ∧ s.busLog = []

/-- No step changes a location that is not RAM: what ROM holds it holds for good (20_memory.md R45,
R46). That a write to ROM is ignored is the spec's own decision D30. -/
def Obligations.OnlyRamEverChanges : Prop :=
  ∀ (s t : State) (a : Nat), step s = .next t → s.kind a ≠ .ram → t.mem.read a = s.mem.read a

/-- TSS, TOE, TDE and the reserved bits of FLAGS change in no step but one that runs SETFLAGS
(10_state.md R18). What the reserved bits do is the spec's own decision D28. -/
def Obligations.EnableBitsChangeOnlyBySetflags : Prop :=
  ∀ (s t : State) (k : Nat), step s = .next t →
    (∀ r s1, s.fetchInstr ≠ .ok (.setflags r, s1)) → 4 ≤ k → k < 16 →
    t.flags.getLsbD k = s.flags.getLsbD k

/-- DS, SS, IS, IA and Y change in no step but one that runs an instruction the spec says writes
them (10_state.md R16, R20, R21). That MOD and UMOD keep Y is the spec's own decision D13. -/
def Obligations.SpecialRegistersChangeOnlyByTheirInstructions : Prop :=
  ∀ (s t : State), step s = .next t →
    (t.ds = s.ds ∨ ∃ s1 r l, s.fetchInstr = .ok (.setdsReg r, s1) ∨ s.fetchInstr = .ok (.setdsLit l, s1)) ∧
    (t.ss = s.ss ∨ ∃ s1 r l, s.fetchInstr = .ok (.setssReg r, s1) ∨ s.fetchInstr = .ok (.setssLit l, s1)) ∧
    (t.is = s.is ∨ ∃ s1 r l, s.fetchInstr = .ok (.setisReg r, s1) ∨ s.fetchInstr = .ok (.setisLit l, s1)) ∧
    (t.ia = s.ia ∨ ∃ s1 r l, s.fetchInstr = .ok (.setiaReg r, s1) ∨ s.fetchInstr = .ok (.setiaLit l, s1)) ∧
    (t.y = s.y ∨ ∃ i s1 r2 r3 l, s.fetchInstr = .ok (i, s1) ∧
      i ∈ [.umulReg r2 r3, .umulLit l r3, .mulReg r2 r3, .mulLit l r3, .udivReg r2 r3, .udivLit l r3,
        .divReg r2 r3, .divLit l r3, .setyReg r3, .setyLit l])

/-- Bits 15:4 of DS are storage with no effect (10_state.md R21): two states that differ in those
bits only take steps to states that differ in them only, unless the step reads or writes DS itself.
It compares two runs: where they take a free value (a division by zero, a read of an absent location,
an answer past the environment's script), both get the same one, because free values are numbered by
the counter draws, which is the model's choice and unsafe in such a claim (logs 4 and 7); so do two
reads of a byte that nothing has written (log 2). -/
def Obligations.UpperBitsOfDsHaveNoEffect : Prop :=
  ∀ (s t : State) (d : Word), d.extractLsb' 0 4 = s.ds.extractLsb' 0 4 →
    (∀ r s1, s.fetchInstr ≠ .ok (.getds r, s1) ∧ s.fetchInstr ≠ .ok (.setdsReg r, s1)) →
    (∀ l s1, s.fetchInstr ≠ .ok (.setdsLit l, s1)) →
    step s = .next t → step (s.setDs d) = .next (t.setDs d)
end

