-- ==== Sys2Proof/Laws/Decode.lean ====
section
/-! SUPPORT. The fields of an encoded word are the ones it was built from, a word is built from its
fields, and a word of each format reaches that format's table; literals come back from their fields. -/

namespace Sys2Proof

/-! ## The fields of an encoded word -/

theorem wordP3_fields (op r1 f2 r3 : BitVec 4) :
    (wordP3 op r1 f2 r3).extractLsb' 12 4 = op ∧ (wordP3 op r1 f2 r3).extractLsb' 8 4 = r1 ∧
    (wordP3 op r1 f2 r3).extractLsb' 4 4 = f2 ∧ (wordP3 op r1 f2 r3).extractLsb' 0 4 = r3 := by
  refine ⟨?_, ?_, ?_, ?_⟩ <;> apply BitVec.eq_of_getLsbD_eq <;> intro i hi <;>
    simp only [wordP3, BitVec.getLsbD_extractLsb', BitVec.getLsbD_append, hi, decide_true, Bool.true_and] <;>
    grind

theorem wordP2_fields (op : BitVec 8) (f2 r3 : BitVec 4) :
    (wordP2 op f2 r3).extractLsb' 12 4 = op.extractLsb' 4 4 ∧ (wordP2 op f2 r3).extractLsb' 8 8 = op ∧
    (wordP2 op f2 r3).extractLsb' 4 4 = f2 ∧ (wordP2 op f2 r3).extractLsb' 0 4 = r3 := by
  refine ⟨?_, ?_, ?_, ?_⟩ <;> apply BitVec.eq_of_getLsbD_eq <;> intro i hi <;>
    simp only [wordP2, BitVec.getLsbD_extractLsb', BitVec.getLsbD_append, hi, decide_true, Bool.true_and] <;>
    grind

theorem wordP1_fields (op : BitVec 12) (f3 : BitVec 4) :
    (wordP1 op f3).extractLsb' 12 4 = op.extractLsb' 8 4 ∧ (wordP1 op f3).extractLsb' 4 12 = op ∧
    (wordP1 op f3).extractLsb' 0 4 = f3 := by
  refine ⟨?_, ?_, ?_⟩ <;> apply BitVec.eq_of_getLsbD_eq <;> intro i hi <;>
    simp only [wordP1, BitVec.getLsbD_extractLsb', BitVec.getLsbD_append, hi, decide_true, Bool.true_and] <;>
    grind

theorem wordL9_fields (op : BitVec 7) (l9 : BitVec 9) :
    (wordL9 op l9).extractLsb' 12 4 = op.extractLsb' 3 4 ∧ (wordL9 op l9).extractLsb' 9 7 = op ∧
    (wordL9 op l9).extractLsb' 0 9 = l9 := by
  refine ⟨?_, ?_, ?_⟩ <;> apply BitVec.eq_of_getLsbD_eq <;> intro i hi <;>
    simp only [wordL9, BitVec.getLsbD_extractLsb', BitVec.getLsbD_append, hi, decide_true, Bool.true_and] <;>
    grind

/-- A word is its four fields of format P3; the same words cut otherwise are the other formats. -/
theorem wordP3_of_fields (w : Word) : wordP3 (w.extractLsb' 12 4) (w.extractLsb' 8 4)
    (w.extractLsb' 4 4) (w.extractLsb' 0 4) = w := by
  apply BitVec.eq_of_getLsbD_eq; intro i hi
  simp only [wordP3, BitVec.getLsbD_extractLsb', BitVec.getLsbD_append]
  grind

theorem wordP2_of_fields (w : Word) :
    wordP2 (w.extractLsb' 8 8) (w.extractLsb' 4 4) (w.extractLsb' 0 4) = w := by
  apply BitVec.eq_of_getLsbD_eq; intro i hi
  simp only [wordP2, BitVec.getLsbD_extractLsb', BitVec.getLsbD_append]
  grind

theorem wordP1_of_fields (w : Word) : wordP1 (w.extractLsb' 4 12) (w.extractLsb' 0 4) = w := by
  apply BitVec.eq_of_getLsbD_eq; intro i hi
  simp only [wordP1, BitVec.getLsbD_extractLsb', BitVec.getLsbD_append]
  grind

theorem wordL9_of_fields (w : Word) : wordL9 (w.extractLsb' 9 7) (w.extractLsb' 0 9) = w := by
  apply BitVec.eq_of_getLsbD_eq; intro i hi
  simp only [wordL9, BitVec.getLsbD_extractLsb', BitVec.getLsbD_append]
  grind

theorem decodeWords_wordP3 (op r1 f2 r3 : BitVec 4) (x : Word) (h : 8 ≤ op.toNat) :
    decodeWords (wordP3 op r1 f2 r3) x = .ok (decodeP3 op.toNat r1 f2 r3 x) := by
  obtain ⟨h12, h8, h4, h0⟩ := wordP3_fields op r1 f2 r3
  unfold decodeWords
  simp only [h12, h8, h4, h0]
  split <;> first | omega | rfl

theorem decodeWords_wordP2 (op : BitVec 8) (f2 r3 : BitVec 4) (x : Word) (h : 0x40 ≤ op.toNat)
    (h' : op.toNat < 0x80) : decodeWords (wordP2 op f2 r3) x =
      decodeP2 op.toNat f2 r3 (wordP2 op f2 r3) x := by
  obtain ⟨h12, h8, h4, h0⟩ := wordP2_fields op f2 r3
  have e : (op.extractLsb' 4 4).toNat = op.toNat / 16 := by
    rw [BitVec.extractLsb'_toNat, Nat.shiftRight_eq_div_pow]; omega
  unfold decodeWords
  have : op.toNat / 16 = 4 ∨ op.toNat / 16 = 5 ∨ op.toNat / 16 = 6 ∨ op.toNat / 16 = 7 := by omega
  simp only [h12, h8, h4, h0, e]
  rcases this with h | h | h | h <;> simp only [h]

theorem decodeWords_wordP1 (op : BitVec 12) (f3 : BitVec 4) (x : Word) (h : 0x200 ≤ op.toNat)
    (h' : op.toNat < 0x400) : decodeWords (wordP1 op f3) x =
      decodeP1 op.toNat f3 (wordP1 op f3) x := by
  obtain ⟨h12, h4, h0⟩ := wordP1_fields op f3
  have e : (op.extractLsb' 8 4).toNat = op.toNat / 256 := by
    rw [BitVec.extractLsb'_toNat, Nat.shiftRight_eq_div_pow]; omega
  unfold decodeWords
  have : op.toNat / 256 = 2 ∨ op.toNat / 256 = 3 := by omega
  simp only [h12, h4, h0, e]
  rcases this with h | h <;> simp only [h]

theorem decodeWords_wordL9 (op : BitVec 7) (l9 : BitVec 9) (x : Word) (h : 0x08 ≤ op.toNat)
    (h' : op.toNat < 0x10) : decodeWords (wordL9 op l9) x =
      decodeL9 op.toNat l9 (wordL9 op l9) := by
  obtain ⟨h12, h9, h0⟩ := wordL9_fields op l9
  have e : (op.extractLsb' 3 4).toNat = op.toNat / 8 := by
    rw [BitVec.extractLsb'_toNat, Nat.shiftRight_eq_div_pow]; omega
  unfold decodeWords
  have : op.toNat / 8 = 1 := by omega
  simp only [h12, h9, h0, e, this]

/-- The literal that a field and an extension word stand for is well-formed, unless the field is 15
without one. -/
theorem litOf_wellFormed (f : BitVec 4) (x : Word) : (litOf f x).wellFormed = true := by
  unfold litOf; split
  · rfl
  · simpa [Lit.wellFormed] using ‹_›

theorem field_litOf (f : BitVec 4) (x : Word) : (litOf f x).field = f := by
  unfold litOf; split
  · simp_all [Lit.field]
  · rfl

theorem litOf_field_short (n : BitVec 4) (x : Word) (h : n ≠ 15#4) :
    litOf (Lit.short n).field x = .short n := by simp [Lit.field, litOf, h]

theorem litOf_field_ext (v x : Word) : litOf (Lit.ext v).field x = .ext x := rfl

end Sys2Proof
end

