-- ==== Sys2Proof/Laws/State.lean ====
section
/-! SUPPORT. What each update of State leaves in each field, true by definition, so that no later proof
unfolds a record update. -/

namespace Sys2Proof.Machine.State

variable (s : State)

@[simp] theorem sp_eq : s.sp = s.reg 15#4 := rfl
@[simp] theorem setSp_eq (v : Word) : s.setSp v = s.setReg 15#4 v := rfl

/-- A register after a write: the value written if it is the one, else what it was. -/
theorem reg_setReg (r q : Reg) (v : Word) : (s.setReg r v).reg q = if q = r then v else s.reg q := by
  unfold State.reg State.setReg
  by_cases h : q = r
  · subst h; simp
  · have h' : r.toNat ≠ q.toNat := fun e => h (BitVec.eq_of_toNat_eq e.symm)
    simp [h, h']

@[simp] theorem reg_setReg_same (r : Reg) (v : Word) : (s.setReg r v).reg r = v := by
  simp [reg_setReg]

theorem reg_setReg_ne (r q : Reg) (v : Word) (h : q ≠ r) : (s.setReg r v).reg q = s.reg q := by
  simp [reg_setReg, h]

/-- Two states that agree on every numbered register hold the same register file. -/
theorem regs_ext (t : State) (h : ∀ r, s.reg r = t.reg r) : s.regs = t.regs := by
  apply Vector.ext
  intro i hi
  simpa [State.reg, Nat.mod_eq_of_lt hi] using h (BitVec.ofNat 4 i)

/-! ### setReg -/

@[simp] theorem pc_setReg (r : Reg) (v : Word) : (s.setReg r v).pc = s.pc := rfl
@[simp] theorem y_setReg (r : Reg) (v : Word) : (s.setReg r v).y = s.y := rfl
@[simp] theorem flags_setReg (r : Reg) (v : Word) : (s.setReg r v).flags = s.flags := rfl
@[simp] theorem ia_setReg (r : Reg) (v : Word) : (s.setReg r v).ia = s.ia := rfl
@[simp] theorem cs_setReg (r : Reg) (v : Word) : (s.setReg r v).cs = s.cs := rfl
@[simp] theorem ds_setReg (r : Reg) (v : Word) : (s.setReg r v).ds = s.ds := rfl
@[simp] theorem ss_setReg (r : Reg) (v : Word) : (s.setReg r v).ss = s.ss := rfl
@[simp] theorem is_setReg (r : Reg) (v : Word) : (s.setReg r v).is = s.is := rfl
@[simp] theorem asleep_setReg (r : Reg) (v : Word) : (s.setReg r v).asleep = s.asleep := rfl
@[simp] theorem iack_setReg (r : Reg) (v : Word) : (s.setReg r v).iack = s.iack := rfl
@[simp] theorem mem_setReg (r : Reg) (v : Word) : (s.setReg r v).mem = s.mem := rfl
@[simp] theorem cfg_setReg (r : Reg) (v : Word) : (s.setReg r v).cfg = s.cfg := rfl
@[simp] theorem skipping_setReg (r : Reg) (v : Word) : (s.setReg r v).skipping = s.skipping := rfl
@[simp] theorem devIn_setReg (r : Reg) (v : Word) : (s.setReg r v).devIn = s.devIn := rfl
@[simp] theorem hwInt_setReg (r : Reg) (v : Word) : (s.setReg r v).hwInt = s.hwInt := rfl
@[simp] theorem busLog_setReg (r : Reg) (v : Word) : (s.setReg r v).busLog = s.busLog := rfl
@[simp] theorem draws_setReg (r : Reg) (v : Word) : (s.setReg r v).draws = s.draws := rfl
@[simp] theorem kind_setReg (r : Reg) (v : Word) (p : Nat) : (s.setReg r v).kind p = s.kind p := rfl
@[simp] theorem flag_setReg (r : Reg) (v : Word) (g : Flag) : (s.setReg r v).flag g = s.flag g := rfl
@[simp] theorem gateOpen_setReg (r : Reg) (v : Word) : (s.setReg r v).gateOpen = s.gateOpen := rfl

/-! ### setPc -/

@[simp] theorem reg_setPc (v : Word) (q : Reg) : (s.setPc v).reg q = s.reg q := rfl
@[simp] theorem regs_setPc (v : Word) : (s.setPc v).regs = s.regs := rfl
@[simp] theorem pc_setPc (v : Word) : (s.setPc v).pc = v := rfl
@[simp] theorem y_setPc (v : Word) : (s.setPc v).y = s.y := rfl
@[simp] theorem flags_setPc (v : Word) : (s.setPc v).flags = s.flags := rfl
@[simp] theorem ia_setPc (v : Word) : (s.setPc v).ia = s.ia := rfl
@[simp] theorem cs_setPc (v : Word) : (s.setPc v).cs = s.cs := rfl
@[simp] theorem ds_setPc (v : Word) : (s.setPc v).ds = s.ds := rfl
@[simp] theorem ss_setPc (v : Word) : (s.setPc v).ss = s.ss := rfl
@[simp] theorem is_setPc (v : Word) : (s.setPc v).is = s.is := rfl
@[simp] theorem asleep_setPc (v : Word) : (s.setPc v).asleep = s.asleep := rfl
@[simp] theorem iack_setPc (v : Word) : (s.setPc v).iack = s.iack := rfl
@[simp] theorem mem_setPc (v : Word) : (s.setPc v).mem = s.mem := rfl
@[simp] theorem cfg_setPc (v : Word) : (s.setPc v).cfg = s.cfg := rfl
@[simp] theorem skipping_setPc (v : Word) : (s.setPc v).skipping = s.skipping := rfl
@[simp] theorem devIn_setPc (v : Word) : (s.setPc v).devIn = s.devIn := rfl
@[simp] theorem hwInt_setPc (v : Word) : (s.setPc v).hwInt = s.hwInt := rfl
@[simp] theorem busLog_setPc (v : Word) : (s.setPc v).busLog = s.busLog := rfl
@[simp] theorem draws_setPc (v : Word) : (s.setPc v).draws = s.draws := rfl
@[simp] theorem kind_setPc (v : Word) (p : Nat) : (s.setPc v).kind p = s.kind p := rfl
@[simp] theorem flag_setPc (v : Word) (g : Flag) : (s.setPc v).flag g = s.flag g := rfl
@[simp] theorem gateOpen_setPc (v : Word) : (s.setPc v).gateOpen = s.gateOpen := rfl

/-! ### setY -/

@[simp] theorem reg_setY (v : Word) (q : Reg) : (s.setY v).reg q = s.reg q := rfl
@[simp] theorem regs_setY (v : Word) : (s.setY v).regs = s.regs := rfl
@[simp] theorem pc_setY (v : Word) : (s.setY v).pc = s.pc := rfl
@[simp] theorem y_setY (v : Word) : (s.setY v).y = v := rfl
@[simp] theorem flags_setY (v : Word) : (s.setY v).flags = s.flags := rfl
@[simp] theorem ia_setY (v : Word) : (s.setY v).ia = s.ia := rfl
@[simp] theorem cs_setY (v : Word) : (s.setY v).cs = s.cs := rfl
@[simp] theorem ds_setY (v : Word) : (s.setY v).ds = s.ds := rfl
@[simp] theorem ss_setY (v : Word) : (s.setY v).ss = s.ss := rfl
@[simp] theorem is_setY (v : Word) : (s.setY v).is = s.is := rfl
@[simp] theorem asleep_setY (v : Word) : (s.setY v).asleep = s.asleep := rfl
@[simp] theorem iack_setY (v : Word) : (s.setY v).iack = s.iack := rfl
@[simp] theorem mem_setY (v : Word) : (s.setY v).mem = s.mem := rfl
@[simp] theorem cfg_setY (v : Word) : (s.setY v).cfg = s.cfg := rfl
@[simp] theorem skipping_setY (v : Word) : (s.setY v).skipping = s.skipping := rfl
@[simp] theorem devIn_setY (v : Word) : (s.setY v).devIn = s.devIn := rfl
@[simp] theorem hwInt_setY (v : Word) : (s.setY v).hwInt = s.hwInt := rfl
@[simp] theorem busLog_setY (v : Word) : (s.setY v).busLog = s.busLog := rfl
@[simp] theorem draws_setY (v : Word) : (s.setY v).draws = s.draws := rfl
@[simp] theorem kind_setY (v : Word) (p : Nat) : (s.setY v).kind p = s.kind p := rfl
@[simp] theorem flag_setY (v : Word) (g : Flag) : (s.setY v).flag g = s.flag g := rfl
@[simp] theorem gateOpen_setY (v : Word) : (s.setY v).gateOpen = s.gateOpen := rfl

/-! ### setFlags -/

@[simp] theorem reg_setFlags (v : Word) (q : Reg) : (s.setFlags v).reg q = s.reg q := rfl
@[simp] theorem regs_setFlags (v : Word) : (s.setFlags v).regs = s.regs := rfl
@[simp] theorem pc_setFlags (v : Word) : (s.setFlags v).pc = s.pc := rfl
@[simp] theorem y_setFlags (v : Word) : (s.setFlags v).y = s.y := rfl
@[simp] theorem flags_setFlags (v : Word) : (s.setFlags v).flags = v := rfl
@[simp] theorem ia_setFlags (v : Word) : (s.setFlags v).ia = s.ia := rfl
@[simp] theorem cs_setFlags (v : Word) : (s.setFlags v).cs = s.cs := rfl
@[simp] theorem ds_setFlags (v : Word) : (s.setFlags v).ds = s.ds := rfl
@[simp] theorem ss_setFlags (v : Word) : (s.setFlags v).ss = s.ss := rfl
@[simp] theorem is_setFlags (v : Word) : (s.setFlags v).is = s.is := rfl
@[simp] theorem asleep_setFlags (v : Word) : (s.setFlags v).asleep = s.asleep := rfl
@[simp] theorem iack_setFlags (v : Word) : (s.setFlags v).iack = s.iack := rfl
@[simp] theorem mem_setFlags (v : Word) : (s.setFlags v).mem = s.mem := rfl
@[simp] theorem cfg_setFlags (v : Word) : (s.setFlags v).cfg = s.cfg := rfl
@[simp] theorem skipping_setFlags (v : Word) : (s.setFlags v).skipping = s.skipping := rfl
@[simp] theorem devIn_setFlags (v : Word) : (s.setFlags v).devIn = s.devIn := rfl
@[simp] theorem hwInt_setFlags (v : Word) : (s.setFlags v).hwInt = s.hwInt := rfl
@[simp] theorem busLog_setFlags (v : Word) : (s.setFlags v).busLog = s.busLog := rfl
@[simp] theorem draws_setFlags (v : Word) : (s.setFlags v).draws = s.draws := rfl
@[simp] theorem kind_setFlags (v : Word) (p : Nat) : (s.setFlags v).kind p = s.kind p := rfl

/-! ### setIa -/

@[simp] theorem reg_setIa (v : Word) (q : Reg) : (s.setIa v).reg q = s.reg q := rfl
@[simp] theorem regs_setIa (v : Word) : (s.setIa v).regs = s.regs := rfl
@[simp] theorem pc_setIa (v : Word) : (s.setIa v).pc = s.pc := rfl
@[simp] theorem y_setIa (v : Word) : (s.setIa v).y = s.y := rfl
@[simp] theorem flags_setIa (v : Word) : (s.setIa v).flags = s.flags := rfl
@[simp] theorem ia_setIa (v : Word) : (s.setIa v).ia = v := rfl
@[simp] theorem cs_setIa (v : Word) : (s.setIa v).cs = s.cs := rfl
@[simp] theorem ds_setIa (v : Word) : (s.setIa v).ds = s.ds := rfl
@[simp] theorem ss_setIa (v : Word) : (s.setIa v).ss = s.ss := rfl
@[simp] theorem is_setIa (v : Word) : (s.setIa v).is = s.is := rfl
@[simp] theorem asleep_setIa (v : Word) : (s.setIa v).asleep = s.asleep := rfl
@[simp] theorem iack_setIa (v : Word) : (s.setIa v).iack = s.iack := rfl
@[simp] theorem mem_setIa (v : Word) : (s.setIa v).mem = s.mem := rfl
@[simp] theorem cfg_setIa (v : Word) : (s.setIa v).cfg = s.cfg := rfl
@[simp] theorem skipping_setIa (v : Word) : (s.setIa v).skipping = s.skipping := rfl
@[simp] theorem devIn_setIa (v : Word) : (s.setIa v).devIn = s.devIn := rfl
@[simp] theorem hwInt_setIa (v : Word) : (s.setIa v).hwInt = s.hwInt := rfl
@[simp] theorem busLog_setIa (v : Word) : (s.setIa v).busLog = s.busLog := rfl
@[simp] theorem draws_setIa (v : Word) : (s.setIa v).draws = s.draws := rfl
@[simp] theorem kind_setIa (v : Word) (p : Nat) : (s.setIa v).kind p = s.kind p := rfl
@[simp] theorem flag_setIa (v : Word) (g : Flag) : (s.setIa v).flag g = s.flag g := rfl

/-! ### setCs -/

@[simp] theorem reg_setCs (v : Word) (q : Reg) : (s.setCs v).reg q = s.reg q := rfl
@[simp] theorem regs_setCs (v : Word) : (s.setCs v).regs = s.regs := rfl
@[simp] theorem pc_setCs (v : Word) : (s.setCs v).pc = s.pc := rfl
@[simp] theorem y_setCs (v : Word) : (s.setCs v).y = s.y := rfl
@[simp] theorem flags_setCs (v : Word) : (s.setCs v).flags = s.flags := rfl
@[simp] theorem ia_setCs (v : Word) : (s.setCs v).ia = s.ia := rfl
@[simp] theorem cs_setCs (v : Word) : (s.setCs v).cs = v := rfl
@[simp] theorem ds_setCs (v : Word) : (s.setCs v).ds = s.ds := rfl
@[simp] theorem ss_setCs (v : Word) : (s.setCs v).ss = s.ss := rfl
@[simp] theorem is_setCs (v : Word) : (s.setCs v).is = s.is := rfl
@[simp] theorem asleep_setCs (v : Word) : (s.setCs v).asleep = s.asleep := rfl
@[simp] theorem iack_setCs (v : Word) : (s.setCs v).iack = s.iack := rfl
@[simp] theorem mem_setCs (v : Word) : (s.setCs v).mem = s.mem := rfl
@[simp] theorem cfg_setCs (v : Word) : (s.setCs v).cfg = s.cfg := rfl
@[simp] theorem skipping_setCs (v : Word) : (s.setCs v).skipping = s.skipping := rfl
@[simp] theorem devIn_setCs (v : Word) : (s.setCs v).devIn = s.devIn := rfl
@[simp] theorem hwInt_setCs (v : Word) : (s.setCs v).hwInt = s.hwInt := rfl
@[simp] theorem busLog_setCs (v : Word) : (s.setCs v).busLog = s.busLog := rfl
@[simp] theorem draws_setCs (v : Word) : (s.setCs v).draws = s.draws := rfl
@[simp] theorem kind_setCs (v : Word) (p : Nat) : (s.setCs v).kind p = s.kind p := rfl
@[simp] theorem flag_setCs (v : Word) (g : Flag) : (s.setCs v).flag g = s.flag g := rfl
@[simp] theorem gateOpen_setCs (v : Word) : (s.setCs v).gateOpen = s.gateOpen := rfl

/-! ### setDs -/

@[simp] theorem reg_setDs (v : Word) (q : Reg) : (s.setDs v).reg q = s.reg q := rfl
@[simp] theorem regs_setDs (v : Word) : (s.setDs v).regs = s.regs := rfl
@[simp] theorem pc_setDs (v : Word) : (s.setDs v).pc = s.pc := rfl
@[simp] theorem y_setDs (v : Word) : (s.setDs v).y = s.y := rfl
@[simp] theorem flags_setDs (v : Word) : (s.setDs v).flags = s.flags := rfl
@[simp] theorem ia_setDs (v : Word) : (s.setDs v).ia = s.ia := rfl
@[simp] theorem cs_setDs (v : Word) : (s.setDs v).cs = s.cs := rfl
@[simp] theorem ds_setDs (v : Word) : (s.setDs v).ds = v := rfl
@[simp] theorem ss_setDs (v : Word) : (s.setDs v).ss = s.ss := rfl
@[simp] theorem is_setDs (v : Word) : (s.setDs v).is = s.is := rfl
@[simp] theorem asleep_setDs (v : Word) : (s.setDs v).asleep = s.asleep := rfl
@[simp] theorem iack_setDs (v : Word) : (s.setDs v).iack = s.iack := rfl
@[simp] theorem mem_setDs (v : Word) : (s.setDs v).mem = s.mem := rfl
@[simp] theorem cfg_setDs (v : Word) : (s.setDs v).cfg = s.cfg := rfl
@[simp] theorem skipping_setDs (v : Word) : (s.setDs v).skipping = s.skipping := rfl
@[simp] theorem devIn_setDs (v : Word) : (s.setDs v).devIn = s.devIn := rfl
@[simp] theorem hwInt_setDs (v : Word) : (s.setDs v).hwInt = s.hwInt := rfl
@[simp] theorem busLog_setDs (v : Word) : (s.setDs v).busLog = s.busLog := rfl
@[simp] theorem draws_setDs (v : Word) : (s.setDs v).draws = s.draws := rfl
@[simp] theorem kind_setDs (v : Word) (p : Nat) : (s.setDs v).kind p = s.kind p := rfl
@[simp] theorem flag_setDs (v : Word) (g : Flag) : (s.setDs v).flag g = s.flag g := rfl
@[simp] theorem gateOpen_setDs (v : Word) : (s.setDs v).gateOpen = s.gateOpen := rfl

/-! ### setSs -/

@[simp] theorem reg_setSs (v : Word) (q : Reg) : (s.setSs v).reg q = s.reg q := rfl
@[simp] theorem regs_setSs (v : Word) : (s.setSs v).regs = s.regs := rfl
@[simp] theorem pc_setSs (v : Word) : (s.setSs v).pc = s.pc := rfl
@[simp] theorem y_setSs (v : Word) : (s.setSs v).y = s.y := rfl
@[simp] theorem flags_setSs (v : Word) : (s.setSs v).flags = s.flags := rfl
@[simp] theorem ia_setSs (v : Word) : (s.setSs v).ia = s.ia := rfl
@[simp] theorem cs_setSs (v : Word) : (s.setSs v).cs = s.cs := rfl
@[simp] theorem ds_setSs (v : Word) : (s.setSs v).ds = s.ds := rfl
@[simp] theorem ss_setSs (v : Word) : (s.setSs v).ss = v := rfl
@[simp] theorem is_setSs (v : Word) : (s.setSs v).is = s.is := rfl
@[simp] theorem asleep_setSs (v : Word) : (s.setSs v).asleep = s.asleep := rfl
@[simp] theorem iack_setSs (v : Word) : (s.setSs v).iack = s.iack := rfl
@[simp] theorem mem_setSs (v : Word) : (s.setSs v).mem = s.mem := rfl
@[simp] theorem cfg_setSs (v : Word) : (s.setSs v).cfg = s.cfg := rfl
@[simp] theorem skipping_setSs (v : Word) : (s.setSs v).skipping = s.skipping := rfl
@[simp] theorem devIn_setSs (v : Word) : (s.setSs v).devIn = s.devIn := rfl
@[simp] theorem hwInt_setSs (v : Word) : (s.setSs v).hwInt = s.hwInt := rfl
@[simp] theorem busLog_setSs (v : Word) : (s.setSs v).busLog = s.busLog := rfl
@[simp] theorem draws_setSs (v : Word) : (s.setSs v).draws = s.draws := rfl
@[simp] theorem kind_setSs (v : Word) (p : Nat) : (s.setSs v).kind p = s.kind p := rfl
@[simp] theorem flag_setSs (v : Word) (g : Flag) : (s.setSs v).flag g = s.flag g := rfl
@[simp] theorem gateOpen_setSs (v : Word) : (s.setSs v).gateOpen = s.gateOpen := rfl

/-! ### setIs -/

@[simp] theorem reg_setIs (v : Word) (q : Reg) : (s.setIs v).reg q = s.reg q := rfl
@[simp] theorem regs_setIs (v : Word) : (s.setIs v).regs = s.regs := rfl
@[simp] theorem pc_setIs (v : Word) : (s.setIs v).pc = s.pc := rfl
@[simp] theorem y_setIs (v : Word) : (s.setIs v).y = s.y := rfl
@[simp] theorem flags_setIs (v : Word) : (s.setIs v).flags = s.flags := rfl
@[simp] theorem ia_setIs (v : Word) : (s.setIs v).ia = s.ia := rfl
@[simp] theorem cs_setIs (v : Word) : (s.setIs v).cs = s.cs := rfl
@[simp] theorem ds_setIs (v : Word) : (s.setIs v).ds = s.ds := rfl
@[simp] theorem ss_setIs (v : Word) : (s.setIs v).ss = s.ss := rfl
@[simp] theorem is_setIs (v : Word) : (s.setIs v).is = v := rfl
@[simp] theorem asleep_setIs (v : Word) : (s.setIs v).asleep = s.asleep := rfl
@[simp] theorem iack_setIs (v : Word) : (s.setIs v).iack = s.iack := rfl
@[simp] theorem mem_setIs (v : Word) : (s.setIs v).mem = s.mem := rfl
@[simp] theorem cfg_setIs (v : Word) : (s.setIs v).cfg = s.cfg := rfl
@[simp] theorem skipping_setIs (v : Word) : (s.setIs v).skipping = s.skipping := rfl
@[simp] theorem devIn_setIs (v : Word) : (s.setIs v).devIn = s.devIn := rfl
@[simp] theorem hwInt_setIs (v : Word) : (s.setIs v).hwInt = s.hwInt := rfl
@[simp] theorem busLog_setIs (v : Word) : (s.setIs v).busLog = s.busLog := rfl
@[simp] theorem draws_setIs (v : Word) : (s.setIs v).draws = s.draws := rfl
@[simp] theorem kind_setIs (v : Word) (p : Nat) : (s.setIs v).kind p = s.kind p := rfl
@[simp] theorem flag_setIs (v : Word) (g : Flag) : (s.setIs v).flag g = s.flag g := rfl
@[simp] theorem gateOpen_setIs (v : Word) : (s.setIs v).gateOpen = s.gateOpen := rfl

/-! ### setAsleep -/

@[simp] theorem reg_setAsleep (b : Bool) (q : Reg) : (s.setAsleep b).reg q = s.reg q := rfl
@[simp] theorem regs_setAsleep (b : Bool) : (s.setAsleep b).regs = s.regs := rfl
@[simp] theorem pc_setAsleep (b : Bool) : (s.setAsleep b).pc = s.pc := rfl
@[simp] theorem y_setAsleep (b : Bool) : (s.setAsleep b).y = s.y := rfl
@[simp] theorem flags_setAsleep (b : Bool) : (s.setAsleep b).flags = s.flags := rfl
@[simp] theorem ia_setAsleep (b : Bool) : (s.setAsleep b).ia = s.ia := rfl
@[simp] theorem cs_setAsleep (b : Bool) : (s.setAsleep b).cs = s.cs := rfl
@[simp] theorem ds_setAsleep (b : Bool) : (s.setAsleep b).ds = s.ds := rfl
@[simp] theorem ss_setAsleep (b : Bool) : (s.setAsleep b).ss = s.ss := rfl
@[simp] theorem is_setAsleep (b : Bool) : (s.setAsleep b).is = s.is := rfl
@[simp] theorem asleep_setAsleep (b : Bool) : (s.setAsleep b).asleep = b := rfl
@[simp] theorem iack_setAsleep (b : Bool) : (s.setAsleep b).iack = s.iack := rfl
@[simp] theorem mem_setAsleep (b : Bool) : (s.setAsleep b).mem = s.mem := rfl
@[simp] theorem cfg_setAsleep (b : Bool) : (s.setAsleep b).cfg = s.cfg := rfl
@[simp] theorem skipping_setAsleep (b : Bool) : (s.setAsleep b).skipping = s.skipping := rfl
@[simp] theorem devIn_setAsleep (b : Bool) : (s.setAsleep b).devIn = s.devIn := rfl
@[simp] theorem hwInt_setAsleep (b : Bool) : (s.setAsleep b).hwInt = s.hwInt := rfl
@[simp] theorem busLog_setAsleep (b : Bool) : (s.setAsleep b).busLog = s.busLog := rfl
@[simp] theorem draws_setAsleep (b : Bool) : (s.setAsleep b).draws = s.draws := rfl
@[simp] theorem kind_setAsleep (b : Bool) (p : Nat) : (s.setAsleep b).kind p = s.kind p := rfl
@[simp] theorem flag_setAsleep (b : Bool) (g : Flag) : (s.setAsleep b).flag g = s.flag g := rfl
@[simp] theorem gateOpen_setAsleep (b : Bool) : (s.setAsleep b).gateOpen = s.gateOpen := rfl

/-! ### setIack -/

@[simp] theorem reg_setIack (b : Bool) (q : Reg) : (s.setIack b).reg q = s.reg q := rfl
@[simp] theorem regs_setIack (b : Bool) : (s.setIack b).regs = s.regs := rfl
@[simp] theorem pc_setIack (b : Bool) : (s.setIack b).pc = s.pc := rfl
@[simp] theorem y_setIack (b : Bool) : (s.setIack b).y = s.y := rfl
@[simp] theorem flags_setIack (b : Bool) : (s.setIack b).flags = s.flags := rfl
@[simp] theorem ia_setIack (b : Bool) : (s.setIack b).ia = s.ia := rfl
@[simp] theorem cs_setIack (b : Bool) : (s.setIack b).cs = s.cs := rfl
@[simp] theorem ds_setIack (b : Bool) : (s.setIack b).ds = s.ds := rfl
@[simp] theorem ss_setIack (b : Bool) : (s.setIack b).ss = s.ss := rfl
@[simp] theorem is_setIack (b : Bool) : (s.setIack b).is = s.is := rfl
@[simp] theorem asleep_setIack (b : Bool) : (s.setIack b).asleep = s.asleep := rfl
@[simp] theorem iack_setIack (b : Bool) : (s.setIack b).iack = b := rfl
@[simp] theorem mem_setIack (b : Bool) : (s.setIack b).mem = s.mem := rfl
@[simp] theorem cfg_setIack (b : Bool) : (s.setIack b).cfg = s.cfg := rfl
@[simp] theorem skipping_setIack (b : Bool) : (s.setIack b).skipping = s.skipping := rfl
@[simp] theorem devIn_setIack (b : Bool) : (s.setIack b).devIn = s.devIn := rfl
@[simp] theorem hwInt_setIack (b : Bool) : (s.setIack b).hwInt = s.hwInt := rfl
@[simp] theorem busLog_setIack (b : Bool) : (s.setIack b).busLog = s.busLog := rfl
@[simp] theorem draws_setIack (b : Bool) : (s.setIack b).draws = s.draws := rfl
@[simp] theorem kind_setIack (b : Bool) (p : Nat) : (s.setIack b).kind p = s.kind p := rfl
@[simp] theorem flag_setIack (b : Bool) (g : Flag) : (s.setIack b).flag g = s.flag g := rfl
@[simp] theorem gateOpen_setIack (b : Bool) : (s.setIack b).gateOpen = s.gateOpen := rfl

/-! ### setSkipping -/

@[simp] theorem reg_setSkipping (b : Bool) (q : Reg) : (s.setSkipping b).reg q = s.reg q := rfl
@[simp] theorem regs_setSkipping (b : Bool) : (s.setSkipping b).regs = s.regs := rfl
@[simp] theorem pc_setSkipping (b : Bool) : (s.setSkipping b).pc = s.pc := rfl
@[simp] theorem y_setSkipping (b : Bool) : (s.setSkipping b).y = s.y := rfl
@[simp] theorem flags_setSkipping (b : Bool) : (s.setSkipping b).flags = s.flags := rfl
@[simp] theorem ia_setSkipping (b : Bool) : (s.setSkipping b).ia = s.ia := rfl
@[simp] theorem cs_setSkipping (b : Bool) : (s.setSkipping b).cs = s.cs := rfl
@[simp] theorem ds_setSkipping (b : Bool) : (s.setSkipping b).ds = s.ds := rfl
@[simp] theorem ss_setSkipping (b : Bool) : (s.setSkipping b).ss = s.ss := rfl
@[simp] theorem is_setSkipping (b : Bool) : (s.setSkipping b).is = s.is := rfl
@[simp] theorem asleep_setSkipping (b : Bool) : (s.setSkipping b).asleep = s.asleep := rfl
@[simp] theorem iack_setSkipping (b : Bool) : (s.setSkipping b).iack = s.iack := rfl
@[simp] theorem mem_setSkipping (b : Bool) : (s.setSkipping b).mem = s.mem := rfl
@[simp] theorem cfg_setSkipping (b : Bool) : (s.setSkipping b).cfg = s.cfg := rfl
@[simp] theorem skipping_setSkipping (b : Bool) : (s.setSkipping b).skipping = b := rfl
@[simp] theorem devIn_setSkipping (b : Bool) : (s.setSkipping b).devIn = s.devIn := rfl
@[simp] theorem hwInt_setSkipping (b : Bool) : (s.setSkipping b).hwInt = s.hwInt := rfl
@[simp] theorem busLog_setSkipping (b : Bool) : (s.setSkipping b).busLog = s.busLog := rfl
@[simp] theorem draws_setSkipping (b : Bool) : (s.setSkipping b).draws = s.draws := rfl
@[simp] theorem kind_setSkipping (b : Bool) (p : Nat) : (s.setSkipping b).kind p = s.kind p := rfl
@[simp] theorem flag_setSkipping (b : Bool) (g : Flag) : (s.setSkipping b).flag g = s.flag g := rfl
@[simp] theorem gateOpen_setSkipping (b : Bool) : (s.setSkipping b).gateOpen = s.gateOpen := rfl

/-! ### setMem -/

@[simp] theorem reg_setMem (m : Memory) (q : Reg) : (s.setMem m).reg q = s.reg q := rfl
@[simp] theorem regs_setMem (m : Memory) : (s.setMem m).regs = s.regs := rfl
@[simp] theorem pc_setMem (m : Memory) : (s.setMem m).pc = s.pc := rfl
@[simp] theorem y_setMem (m : Memory) : (s.setMem m).y = s.y := rfl
@[simp] theorem flags_setMem (m : Memory) : (s.setMem m).flags = s.flags := rfl
@[simp] theorem ia_setMem (m : Memory) : (s.setMem m).ia = s.ia := rfl
@[simp] theorem cs_setMem (m : Memory) : (s.setMem m).cs = s.cs := rfl
@[simp] theorem ds_setMem (m : Memory) : (s.setMem m).ds = s.ds := rfl
@[simp] theorem ss_setMem (m : Memory) : (s.setMem m).ss = s.ss := rfl
@[simp] theorem is_setMem (m : Memory) : (s.setMem m).is = s.is := rfl
@[simp] theorem asleep_setMem (m : Memory) : (s.setMem m).asleep = s.asleep := rfl
@[simp] theorem iack_setMem (m : Memory) : (s.setMem m).iack = s.iack := rfl
@[simp] theorem mem_setMem (m : Memory) : (s.setMem m).mem = m := rfl
@[simp] theorem cfg_setMem (m : Memory) : (s.setMem m).cfg = s.cfg := rfl
@[simp] theorem skipping_setMem (m : Memory) : (s.setMem m).skipping = s.skipping := rfl
@[simp] theorem devIn_setMem (m : Memory) : (s.setMem m).devIn = s.devIn := rfl
@[simp] theorem hwInt_setMem (m : Memory) : (s.setMem m).hwInt = s.hwInt := rfl
@[simp] theorem busLog_setMem (m : Memory) : (s.setMem m).busLog = s.busLog := rfl
@[simp] theorem draws_setMem (m : Memory) : (s.setMem m).draws = s.draws := rfl
@[simp] theorem kind_setMem (m : Memory) (p : Nat) : (s.setMem m).kind p = s.kind p := rfl
@[simp] theorem flag_setMem (m : Memory) (g : Flag) : (s.setMem m).flag g = s.flag g := rfl
@[simp] theorem gateOpen_setMem (m : Memory) : (s.setMem m).gateOpen = s.gateOpen := rfl

/-! ### setDevIn -/

@[simp] theorem reg_setDevIn (l : List Word) (q : Reg) : (s.setDevIn l).reg q = s.reg q := rfl
@[simp] theorem regs_setDevIn (l : List Word) : (s.setDevIn l).regs = s.regs := rfl
@[simp] theorem pc_setDevIn (l : List Word) : (s.setDevIn l).pc = s.pc := rfl
@[simp] theorem y_setDevIn (l : List Word) : (s.setDevIn l).y = s.y := rfl
@[simp] theorem flags_setDevIn (l : List Word) : (s.setDevIn l).flags = s.flags := rfl
@[simp] theorem ia_setDevIn (l : List Word) : (s.setDevIn l).ia = s.ia := rfl
@[simp] theorem cs_setDevIn (l : List Word) : (s.setDevIn l).cs = s.cs := rfl
@[simp] theorem ds_setDevIn (l : List Word) : (s.setDevIn l).ds = s.ds := rfl
@[simp] theorem ss_setDevIn (l : List Word) : (s.setDevIn l).ss = s.ss := rfl
@[simp] theorem is_setDevIn (l : List Word) : (s.setDevIn l).is = s.is := rfl
@[simp] theorem asleep_setDevIn (l : List Word) : (s.setDevIn l).asleep = s.asleep := rfl
@[simp] theorem iack_setDevIn (l : List Word) : (s.setDevIn l).iack = s.iack := rfl
@[simp] theorem mem_setDevIn (l : List Word) : (s.setDevIn l).mem = s.mem := rfl
@[simp] theorem cfg_setDevIn (l : List Word) : (s.setDevIn l).cfg = s.cfg := rfl
@[simp] theorem skipping_setDevIn (l : List Word) : (s.setDevIn l).skipping = s.skipping := rfl
@[simp] theorem devIn_setDevIn (l : List Word) : (s.setDevIn l).devIn = l := rfl
@[simp] theorem hwInt_setDevIn (l : List Word) : (s.setDevIn l).hwInt = s.hwInt := rfl
@[simp] theorem busLog_setDevIn (l : List Word) : (s.setDevIn l).busLog = s.busLog := rfl
@[simp] theorem draws_setDevIn (l : List Word) : (s.setDevIn l).draws = s.draws := rfl
@[simp] theorem kind_setDevIn (l : List Word) (p : Nat) : (s.setDevIn l).kind p = s.kind p := rfl
@[simp] theorem flag_setDevIn (l : List Word) (g : Flag) : (s.setDevIn l).flag g = s.flag g := rfl
@[simp] theorem gateOpen_setDevIn (l : List Word) : (s.setDevIn l).gateOpen = s.gateOpen := rfl

/-! ### setHwInt -/

@[simp] theorem reg_setHwInt (l : List (Option Word)) (q : Reg) : (s.setHwInt l).reg q = s.reg q := rfl
@[simp] theorem regs_setHwInt (l : List (Option Word)) : (s.setHwInt l).regs = s.regs := rfl
@[simp] theorem pc_setHwInt (l : List (Option Word)) : (s.setHwInt l).pc = s.pc := rfl
@[simp] theorem y_setHwInt (l : List (Option Word)) : (s.setHwInt l).y = s.y := rfl
@[simp] theorem flags_setHwInt (l : List (Option Word)) : (s.setHwInt l).flags = s.flags := rfl
@[simp] theorem ia_setHwInt (l : List (Option Word)) : (s.setHwInt l).ia = s.ia := rfl
@[simp] theorem cs_setHwInt (l : List (Option Word)) : (s.setHwInt l).cs = s.cs := rfl
@[simp] theorem ds_setHwInt (l : List (Option Word)) : (s.setHwInt l).ds = s.ds := rfl
@[simp] theorem ss_setHwInt (l : List (Option Word)) : (s.setHwInt l).ss = s.ss := rfl
@[simp] theorem is_setHwInt (l : List (Option Word)) : (s.setHwInt l).is = s.is := rfl
@[simp] theorem asleep_setHwInt (l : List (Option Word)) : (s.setHwInt l).asleep = s.asleep := rfl
@[simp] theorem iack_setHwInt (l : List (Option Word)) : (s.setHwInt l).iack = s.iack := rfl
@[simp] theorem mem_setHwInt (l : List (Option Word)) : (s.setHwInt l).mem = s.mem := rfl
@[simp] theorem cfg_setHwInt (l : List (Option Word)) : (s.setHwInt l).cfg = s.cfg := rfl
@[simp] theorem skipping_setHwInt (l : List (Option Word)) : (s.setHwInt l).skipping = s.skipping := rfl
@[simp] theorem devIn_setHwInt (l : List (Option Word)) : (s.setHwInt l).devIn = s.devIn := rfl
@[simp] theorem hwInt_setHwInt (l : List (Option Word)) : (s.setHwInt l).hwInt = l := rfl
@[simp] theorem busLog_setHwInt (l : List (Option Word)) : (s.setHwInt l).busLog = s.busLog := rfl
@[simp] theorem draws_setHwInt (l : List (Option Word)) : (s.setHwInt l).draws = s.draws := rfl
@[simp] theorem kind_setHwInt (l : List (Option Word)) (p : Nat) : (s.setHwInt l).kind p = s.kind p := rfl
@[simp] theorem flag_setHwInt (l : List (Option Word)) (g : Flag) : (s.setHwInt l).flag g = s.flag g := rfl
@[simp] theorem gateOpen_setHwInt (l : List (Option Word)) : (s.setHwInt l).gateOpen = s.gateOpen := rfl

/-! ### logBus -/

@[simp] theorem reg_logBus (e : BusEvent) (q : Reg) : (s.logBus e).reg q = s.reg q := rfl
@[simp] theorem regs_logBus (e : BusEvent) : (s.logBus e).regs = s.regs := rfl
@[simp] theorem pc_logBus (e : BusEvent) : (s.logBus e).pc = s.pc := rfl
@[simp] theorem y_logBus (e : BusEvent) : (s.logBus e).y = s.y := rfl
@[simp] theorem flags_logBus (e : BusEvent) : (s.logBus e).flags = s.flags := rfl
@[simp] theorem ia_logBus (e : BusEvent) : (s.logBus e).ia = s.ia := rfl
@[simp] theorem cs_logBus (e : BusEvent) : (s.logBus e).cs = s.cs := rfl
@[simp] theorem ds_logBus (e : BusEvent) : (s.logBus e).ds = s.ds := rfl
@[simp] theorem ss_logBus (e : BusEvent) : (s.logBus e).ss = s.ss := rfl
@[simp] theorem is_logBus (e : BusEvent) : (s.logBus e).is = s.is := rfl
@[simp] theorem asleep_logBus (e : BusEvent) : (s.logBus e).asleep = s.asleep := rfl
@[simp] theorem iack_logBus (e : BusEvent) : (s.logBus e).iack = s.iack := rfl
@[simp] theorem mem_logBus (e : BusEvent) : (s.logBus e).mem = s.mem := rfl
@[simp] theorem cfg_logBus (e : BusEvent) : (s.logBus e).cfg = s.cfg := rfl
@[simp] theorem skipping_logBus (e : BusEvent) : (s.logBus e).skipping = s.skipping := rfl
@[simp] theorem devIn_logBus (e : BusEvent) : (s.logBus e).devIn = s.devIn := rfl
@[simp] theorem hwInt_logBus (e : BusEvent) : (s.logBus e).hwInt = s.hwInt := rfl
@[simp] theorem busLog_logBus (e : BusEvent) : (s.logBus e).busLog = e :: s.busLog := rfl
@[simp] theorem draws_logBus (e : BusEvent) : (s.logBus e).draws = s.draws := rfl
@[simp] theorem kind_logBus (e : BusEvent) (p : Nat) : (s.logBus e).kind p = s.kind p := rfl
@[simp] theorem flag_logBus (e : BusEvent) (g : Flag) : (s.logBus e).flag g = s.flag g := rfl
@[simp] theorem gateOpen_logBus (e : BusEvent) : (s.logBus e).gateOpen = s.gateOpen := rfl

/-! ### addDraws -/

@[simp] theorem reg_addDraws (n : Nat) (q : Reg) : (s.addDraws n).reg q = s.reg q := rfl
@[simp] theorem regs_addDraws (n : Nat) : (s.addDraws n).regs = s.regs := rfl
@[simp] theorem pc_addDraws (n : Nat) : (s.addDraws n).pc = s.pc := rfl
@[simp] theorem y_addDraws (n : Nat) : (s.addDraws n).y = s.y := rfl
@[simp] theorem flags_addDraws (n : Nat) : (s.addDraws n).flags = s.flags := rfl
@[simp] theorem ia_addDraws (n : Nat) : (s.addDraws n).ia = s.ia := rfl
@[simp] theorem cs_addDraws (n : Nat) : (s.addDraws n).cs = s.cs := rfl
@[simp] theorem ds_addDraws (n : Nat) : (s.addDraws n).ds = s.ds := rfl
@[simp] theorem ss_addDraws (n : Nat) : (s.addDraws n).ss = s.ss := rfl
@[simp] theorem is_addDraws (n : Nat) : (s.addDraws n).is = s.is := rfl
@[simp] theorem asleep_addDraws (n : Nat) : (s.addDraws n).asleep = s.asleep := rfl
@[simp] theorem iack_addDraws (n : Nat) : (s.addDraws n).iack = s.iack := rfl
@[simp] theorem mem_addDraws (n : Nat) : (s.addDraws n).mem = s.mem := rfl
@[simp] theorem cfg_addDraws (n : Nat) : (s.addDraws n).cfg = s.cfg := rfl
@[simp] theorem skipping_addDraws (n : Nat) : (s.addDraws n).skipping = s.skipping := rfl
@[simp] theorem devIn_addDraws (n : Nat) : (s.addDraws n).devIn = s.devIn := rfl
@[simp] theorem hwInt_addDraws (n : Nat) : (s.addDraws n).hwInt = s.hwInt := rfl
@[simp] theorem busLog_addDraws (n : Nat) : (s.addDraws n).busLog = s.busLog := rfl
@[simp] theorem draws_addDraws (n : Nat) : (s.addDraws n).draws = s.draws + n := rfl
@[simp] theorem kind_addDraws (n : Nat) (p : Nat) : (s.addDraws n).kind p = s.kind p := rfl
@[simp] theorem flag_addDraws (n : Nat) (g : Flag) : (s.addDraws n).flag g = s.flag g := rfl
@[simp] theorem gateOpen_addDraws (n : Nat) : (s.addDraws n).gateOpen = s.gateOpen := rfl

/-! ### setFlag -/

@[simp] theorem reg_setFlag (f : Flag) (b : Bool) (q : Reg) : (s.setFlag f b).reg q = s.reg q := rfl
@[simp] theorem regs_setFlag (f : Flag) (b : Bool) : (s.setFlag f b).regs = s.regs := rfl
@[simp] theorem pc_setFlag (f : Flag) (b : Bool) : (s.setFlag f b).pc = s.pc := rfl
@[simp] theorem y_setFlag (f : Flag) (b : Bool) : (s.setFlag f b).y = s.y := rfl
@[simp] theorem flags_setFlag (f : Flag) (b : Bool) : (s.setFlag f b).flags = withBit s.flags f.bit b := rfl
@[simp] theorem ia_setFlag (f : Flag) (b : Bool) : (s.setFlag f b).ia = s.ia := rfl
@[simp] theorem cs_setFlag (f : Flag) (b : Bool) : (s.setFlag f b).cs = s.cs := rfl
@[simp] theorem ds_setFlag (f : Flag) (b : Bool) : (s.setFlag f b).ds = s.ds := rfl
@[simp] theorem ss_setFlag (f : Flag) (b : Bool) : (s.setFlag f b).ss = s.ss := rfl
@[simp] theorem is_setFlag (f : Flag) (b : Bool) : (s.setFlag f b).is = s.is := rfl
@[simp] theorem asleep_setFlag (f : Flag) (b : Bool) : (s.setFlag f b).asleep = s.asleep := rfl
@[simp] theorem iack_setFlag (f : Flag) (b : Bool) : (s.setFlag f b).iack = s.iack := rfl
@[simp] theorem mem_setFlag (f : Flag) (b : Bool) : (s.setFlag f b).mem = s.mem := rfl
@[simp] theorem cfg_setFlag (f : Flag) (b : Bool) : (s.setFlag f b).cfg = s.cfg := rfl
@[simp] theorem skipping_setFlag (f : Flag) (b : Bool) : (s.setFlag f b).skipping = s.skipping := rfl
@[simp] theorem devIn_setFlag (f : Flag) (b : Bool) : (s.setFlag f b).devIn = s.devIn := rfl
@[simp] theorem hwInt_setFlag (f : Flag) (b : Bool) : (s.setFlag f b).hwInt = s.hwInt := rfl
@[simp] theorem busLog_setFlag (f : Flag) (b : Bool) : (s.setFlag f b).busLog = s.busLog := rfl
@[simp] theorem draws_setFlag (f : Flag) (b : Bool) : (s.setFlag f b).draws = s.draws := rfl
@[simp] theorem kind_setFlag (f : Flag) (b : Bool) (p : Nat) : (s.setFlag f b).kind p = s.kind p := rfl

end Sys2Proof.Machine.State
end

