-- ==== Sys2Proof/Laws/Flags.lean ====
section
/-! SUPPORT. The bits of FLAGS after a write of one of them, and what the flag computations say in
exact arithmetic. -/

namespace Sys2Proof.Machine

/-- Writing one bit sets that bit and keeps every other. -/
theorem getLsbD_withBit (w : Word) (k j : Nat) (b : Bool) (hk : k < 16) :
    (withBit w k b).getLsbD j = if j = k then b else w.getLsbD j := by
  unfold withBit
  by_cases hj : j = k
  · subst hj; cases b <;> simp [hk]
  · have hb : (1#16 <<< k).getLsbD j = false := by
      simp only [BitVec.getLsbD_shiftLeft, BitVec.getLsbD_one]
      by_cases hlt : j < k
      · simp [hlt]
      · have : j - k ≠ 0 := by omega
        simp [this]
    by_cases h16 : j < 16
    · cases b
      · simp only [if_neg hj, Bool.false_eq_true, if_false, BitVec.getLsbD_and, BitVec.getLsbD_not, hb]
        simp [h16]
      · simp only [if_neg hj, if_true, BitVec.getLsbD_or, hb, Bool.or_false]
    · rw [if_neg hj, BitVec.getLsbD_of_ge _ _ (by omega), BitVec.getLsbD_of_ge _ _ (by omega)]

theorem Flag.bit_lt (f : Flag) : f.bit < 16 := by cases f <;> decide

theorem Flag.bit_injective {f g : Flag} (h : f.bit = g.bit) : f = g := by
  cases f <;> cases g <;> first | rfl | exact absurd h (by decide)

/-- A flag after a write of a flag. -/
@[simp] theorem State.flag_setFlag (s : State) (f g : Flag) (b : Bool) :
    (s.setFlag f b).flag g = if g = f then b else s.flag g := by
  change (withBit s.flags f.bit b).getLsbD g.bit = _
  rw [getLsbD_withBit _ _ _ _ (Flag.bit_lt f)]
  by_cases h : g = f
  · subst h; simp
  · have : g.bit ≠ f.bit := fun e => h (Flag.bit_injective e)
    rw [if_neg this, if_neg h]
    rfl

/-- The gate after a write of a flag other than IF is what it was. -/
theorem State.gateOpen_setFlag_ne (s : State) (f : Flag) (b : Bool) (h : f ≠ .intf) :
    (s.setFlag f b).gateOpen = s.gateOpen := by
  unfold State.gateOpen
  rw [State.flag_setFlag, if_neg (Ne.symm h)]
  rfl

/-- With IF written 1 the gate is closed. -/
@[simp] theorem State.gateOpen_setFlag_intf (s : State) : (s.setFlag .intf true).gateOpen = false := by
  simp [State.gateOpen]

end Sys2Proof.Machine
end

