-- ==== Sys2Proof/Laws/Memory.lean ====
section
/-! SUPPORT. The laws of memory: what a byte reads as after a write, and that every operation keeps
the canonical form. -/

namespace Sys2Proof.Machine.Memory

/-- After a write its byte is known, and what is known of every other is the same. -/
theorem lookup_write (m : Memory) (k j : Nat) (v : Byte) :
    (write m k v).lookup j = if j = k then some v else m.lookup j := by
  induction m with
  | nil => simp [write, lookup, eq_comm]
  | cons c m ih =>
    obtain ⟨a, b⟩ := c
    unfold write
    split
    · simp [lookup, eq_comm]
    · split
      · rename_i hk; subst hk
        by_cases h : j = k
        · simp [lookup, h]
        · simp [lookup, h, Ne.symm h]
      · rename_i hk
        by_cases h : a = j
        · simp [lookup, h, show j ≠ k from fun e => hk (e.symm.trans h.symm)]
        · simp [lookup, h, ih]

/-- What any byte reads as after a write of one. -/
theorem read_write (m : Memory) (k j : Nat) (v : Byte) :
    (write m k v).read j = if j = k then v else m.read j := by
  unfold read; rw [lookup_write]; split <;> rfl

/-- A byte reads as what was written last. -/
@[simp] theorem read_write_same (m : Memory) (k : Nat) (v : Byte) : (write m k v).read k = v := by
  simp [read_write]

/-- A write changes no other byte. -/
theorem read_write_ne (m : Memory) (k j : Nat) (v : Byte) (h : j ≠ k) :
    (write m k v).read j = m.read j := by
  simp [read_write, h]

theorem wfFrom_mono (m : Memory) (lo lo' : Nat) (h : lo' ≤ lo) (hw : wfFrom lo m = true) :
    wfFrom lo' m = true := by
  cases m with
  | nil => rfl
  | cons c m =>
    simp only [wfFrom, Bool.and_eq_true, decide_eq_true_eq] at hw ⊢
    exact ⟨⟨by omega, hw.1.2⟩, hw.2⟩

theorem wfFrom_write (m : Memory) (lo k : Nat) (v : Byte) (hlo : lo ≤ k) (hk : k < 2 ^ 20)
    (hw : wfFrom lo m = true) : wfFrom lo (write m k v) = true := by
  induction m generalizing lo with
  | nil =>
    simp only [write, wfFrom, Bool.and_eq_true, decide_eq_true_eq]
    exact ⟨⟨hlo, hk⟩, trivial⟩
  | cons c m ih =>
    obtain ⟨a, b⟩ := c
    simp only [wfFrom, Bool.and_eq_true, decide_eq_true_eq] at hw
    obtain ⟨⟨hla, ha20⟩, hm⟩ := hw
    unfold write
    split
    · simp only [wfFrom, Bool.and_eq_true, decide_eq_true_eq]
      exact ⟨⟨hlo, hk⟩, ⟨by omega, ha20⟩, hm⟩
    · split
      · rename_i hka; subst hka
        simp only [wfFrom, Bool.and_eq_true, decide_eq_true_eq]
        exact ⟨⟨hlo, hk⟩, hm⟩
      · simp only [wfFrom, Bool.and_eq_true, decide_eq_true_eq]
        exact ⟨⟨hla, ha20⟩, ih (a + 1) (by omega) hm⟩

/-- A write inside the memory space keeps the canonical form. -/
theorem wf_write (m : Memory) (k : Nat) (v : Byte) (hk : k < 2 ^ 20) (hw : m.wf = true) :
    (write m k v).wf = true :=
  wfFrom_write m 0 k v (Nat.zero_le k) hk hw

@[simp] theorem place_nil (m : Memory) : m.place [] = m := rfl
@[simp] theorem place_cons (m : Memory) (c : Host.Cell) (cs : List Host.Cell) :
    m.place (c :: cs) = (write m c.1 c.2).place cs := rfl

/-- An image inside the memory space keeps the canonical form. -/
theorem wf_place (m : Memory) (image : List Host.Cell) (hi : ∀ c ∈ image, c.1 < 2 ^ 20)
    (hw : m.wf = true) : (m.place image).wf = true := by
  induction image generalizing m with
  | nil => exact hw
  | cons c cs ih =>
    exact ih _ (fun d hd => hi d (.tail _ hd)) (wf_write _ _ _ (hi c (.head _)) hw)

/-- What is known of the bytes outside an image is the same after it has been placed. -/
theorem lookup_place_of_not_mem (m : Memory) (image : List Host.Cell) (j : Nat)
    (h : ∀ c ∈ image, c.1 ≠ j) : (m.place image).lookup j = m.lookup j := by
  induction image generalizing m with
  | nil => rfl
  | cons c cs ih =>
    rw [place_cons, ih _ fun d hd => h d (.tail _ hd), lookup_write,
      if_neg (Ne.symm (h c (.head _)))]

end Sys2Proof.Machine.Memory

namespace Sys2Proof.Machine

@[simp] theorem State.mem_placeImage (s : State) (image : List Host.Cell) :
    (s.placeImage image).mem = s.mem.place image := rfl

/-- The initial state is the reset state but for the image and the parameters. -/
theorem State.initial_eq (c : Config) (image : List Host.Cell) (ioDev : List Word)
    (hwInt : List (Option Word)) : State.initial c image ioDev hwInt =
      { State.reset with mem := Memory.place [] image, cfg := c, devIn := ioDev, hwInt := hwInt } :=
  rfl

/-- Every physical address is in the memory space (20_memory.md R41). -/
theorem phys_lt (seg off : Word) : phys seg off < 2 ^ 20 := BitVec.isLt _

/-- A physical address in numbers: the low four bits of the segment, then the offset. -/
theorem phys_eq (seg off : Word) : phys seg off = seg.toNat % 16 * 65536 + off.toNat := by
  unfold phys
  rw [BitVec.toNat_append, Nat.shiftLeft_eq, Nat.mul_comm, ← Nat.two_pow_add_eq_or_of_lt off.isLt]
  simp [BitVec.extractLsb'_toNat]; omega

/-- Two offsets of one segment are two addresses. -/
theorem phys_injective (seg o p : Word) : phys seg o = phys seg p ↔ o = p := by
  rw [phys_eq, phys_eq]
  constructor
  · intro h; exact BitVec.eq_of_toNat_eq (by omega)
  · rintro rfl; rfl

end Sys2Proof.Machine
end

