-- ==== Sys2Proof/Laws/Frame.lean ====
section
/-! SUPPORT. What the shared operations of Machine/Ops.lean leave alone: for each operation, one lemma
for each field it does not write. What they write is in Laws/Ops.lean. -/

namespace Sys2Proof.Machine.State

variable (s : State)

/-! ### answer -/

@[simp] theorem regs_answer : (s.answer).2.regs = s.regs := by
  unfold State.answer; split <;> rfl
@[simp] theorem reg_answer (q : Reg) : (s.answer).2.reg q = s.reg q := by
  simp [State.reg]
@[simp] theorem pc_answer : (s.answer).2.pc = s.pc := by
  unfold State.answer; split <;> rfl
@[simp] theorem y_answer : (s.answer).2.y = s.y := by
  unfold State.answer; split <;> rfl
@[simp] theorem flags_answer : (s.answer).2.flags = s.flags := by
  unfold State.answer; split <;> rfl
@[simp] theorem ia_answer : (s.answer).2.ia = s.ia := by
  unfold State.answer; split <;> rfl
@[simp] theorem cs_answer : (s.answer).2.cs = s.cs := by
  unfold State.answer; split <;> rfl
@[simp] theorem ds_answer : (s.answer).2.ds = s.ds := by
  unfold State.answer; split <;> rfl
@[simp] theorem ss_answer : (s.answer).2.ss = s.ss := by
  unfold State.answer; split <;> rfl
@[simp] theorem is_answer : (s.answer).2.is = s.is := by
  unfold State.answer; split <;> rfl
@[simp] theorem asleep_answer : (s.answer).2.asleep = s.asleep := by
  unfold State.answer; split <;> rfl
@[simp] theorem iack_answer : (s.answer).2.iack = s.iack := by
  unfold State.answer; split <;> rfl
@[simp] theorem mem_answer : (s.answer).2.mem = s.mem := by
  unfold State.answer; split <;> rfl
@[simp] theorem cfg_answer : (s.answer).2.cfg = s.cfg := by
  unfold State.answer; split <;> rfl
@[simp] theorem skipping_answer : (s.answer).2.skipping = s.skipping := by
  unfold State.answer; split <;> rfl
@[simp] theorem hwInt_answer : (s.answer).2.hwInt = s.hwInt := by
  unfold State.answer; split <;> rfl
@[simp] theorem busLog_answer : (s.answer).2.busLog = s.busLog := by
  unfold State.answer; split <;> rfl
@[simp] theorem kind_answer (a : Nat) : (s.answer).2.kind a = s.kind a := by
  simp [State.kind]
@[simp] theorem flag_answer (g : Flag) : (s.answer).2.flag g = s.flag g := by
  simp [State.flag]
@[simp] theorem gateOpen_answer : (s.answer).2.gateOpen = s.gateOpen := by
  simp [State.gateOpen]

/-! ### ioRead -/

@[simp] theorem regs_ioRead (port : Port) : (s.ioRead port).2.regs = s.regs := by
  simp [State.ioRead]
@[simp] theorem reg_ioRead (port : Port) (q : Reg) : (s.ioRead port).2.reg q = s.reg q := by
  simp [State.reg]
@[simp] theorem pc_ioRead (port : Port) : (s.ioRead port).2.pc = s.pc := by
  simp [State.ioRead]
@[simp] theorem y_ioRead (port : Port) : (s.ioRead port).2.y = s.y := by
  simp [State.ioRead]
@[simp] theorem flags_ioRead (port : Port) : (s.ioRead port).2.flags = s.flags := by
  simp [State.ioRead]
@[simp] theorem ia_ioRead (port : Port) : (s.ioRead port).2.ia = s.ia := by
  simp [State.ioRead]
@[simp] theorem cs_ioRead (port : Port) : (s.ioRead port).2.cs = s.cs := by
  simp [State.ioRead]
@[simp] theorem ds_ioRead (port : Port) : (s.ioRead port).2.ds = s.ds := by
  simp [State.ioRead]
@[simp] theorem ss_ioRead (port : Port) : (s.ioRead port).2.ss = s.ss := by
  simp [State.ioRead]
@[simp] theorem is_ioRead (port : Port) : (s.ioRead port).2.is = s.is := by
  simp [State.ioRead]
@[simp] theorem asleep_ioRead (port : Port) : (s.ioRead port).2.asleep = s.asleep := by
  simp [State.ioRead]
@[simp] theorem iack_ioRead (port : Port) : (s.ioRead port).2.iack = s.iack := by
  simp [State.ioRead]
@[simp] theorem mem_ioRead (port : Port) : (s.ioRead port).2.mem = s.mem := by
  simp [State.ioRead]
@[simp] theorem cfg_ioRead (port : Port) : (s.ioRead port).2.cfg = s.cfg := by
  simp [State.ioRead]
@[simp] theorem skipping_ioRead (port : Port) : (s.ioRead port).2.skipping = s.skipping := by
  simp [State.ioRead]
@[simp] theorem hwInt_ioRead (port : Port) : (s.ioRead port).2.hwInt = s.hwInt := by
  simp [State.ioRead]
@[simp] theorem kind_ioRead (port : Port) (a : Nat) : (s.ioRead port).2.kind a = s.kind a := by
  simp [State.kind]
@[simp] theorem flag_ioRead (port : Port) (g : Flag) : (s.ioRead port).2.flag g = s.flag g := by
  simp [State.flag]
@[simp] theorem gateOpen_ioRead (port : Port) : (s.ioRead port).2.gateOpen = s.gateOpen := by
  simp [State.gateOpen]

/-! ### ioWrite -/

@[simp] theorem regs_ioWrite (port : Port) (v : Word) : (s.ioWrite port v).regs = s.regs := by
  rfl
@[simp] theorem reg_ioWrite (port : Port) (v : Word) (q : Reg) : (s.ioWrite port v).reg q = s.reg q := by
  simp [State.reg]
@[simp] theorem pc_ioWrite (port : Port) (v : Word) : (s.ioWrite port v).pc = s.pc := by
  rfl
@[simp] theorem y_ioWrite (port : Port) (v : Word) : (s.ioWrite port v).y = s.y := by
  rfl
@[simp] theorem flags_ioWrite (port : Port) (v : Word) : (s.ioWrite port v).flags = s.flags := by
  rfl
@[simp] theorem ia_ioWrite (port : Port) (v : Word) : (s.ioWrite port v).ia = s.ia := by
  rfl
@[simp] theorem cs_ioWrite (port : Port) (v : Word) : (s.ioWrite port v).cs = s.cs := by
  rfl
@[simp] theorem ds_ioWrite (port : Port) (v : Word) : (s.ioWrite port v).ds = s.ds := by
  rfl
@[simp] theorem ss_ioWrite (port : Port) (v : Word) : (s.ioWrite port v).ss = s.ss := by
  rfl
@[simp] theorem is_ioWrite (port : Port) (v : Word) : (s.ioWrite port v).is = s.is := by
  rfl
@[simp] theorem asleep_ioWrite (port : Port) (v : Word) : (s.ioWrite port v).asleep = s.asleep := by
  rfl
@[simp] theorem iack_ioWrite (port : Port) (v : Word) : (s.ioWrite port v).iack = s.iack := by
  rfl
@[simp] theorem mem_ioWrite (port : Port) (v : Word) : (s.ioWrite port v).mem = s.mem := by
  rfl
@[simp] theorem cfg_ioWrite (port : Port) (v : Word) : (s.ioWrite port v).cfg = s.cfg := by
  rfl
@[simp] theorem skipping_ioWrite (port : Port) (v : Word) : (s.ioWrite port v).skipping = s.skipping := by
  rfl
@[simp] theorem devIn_ioWrite (port : Port) (v : Word) : (s.ioWrite port v).devIn = s.devIn := by
  rfl
@[simp] theorem hwInt_ioWrite (port : Port) (v : Word) : (s.ioWrite port v).hwInt = s.hwInt := by
  rfl
@[simp] theorem draws_ioWrite (port : Port) (v : Word) : (s.ioWrite port v).draws = s.draws := by
  rfl
@[simp] theorem kind_ioWrite (port : Port) (v : Word) (a : Nat) : (s.ioWrite port v).kind a = s.kind a := by
  simp [State.kind]
@[simp] theorem flag_ioWrite (port : Port) (v : Word) (g : Flag) : (s.ioWrite port v).flag g = s.flag g := by
  simp [State.flag]
@[simp] theorem gateOpen_ioWrite (port : Port) (v : Word) : (s.ioWrite port v).gateOpen = s.gateOpen := by
  simp [State.gateOpen]

/-! ### readByte -/

@[simp] theorem regs_readByte (p : Nat) : (s.readByte p).2.regs = s.regs := by
  unfold State.readByte; split <;> simp
@[simp] theorem reg_readByte (p : Nat) (q : Reg) : (s.readByte p).2.reg q = s.reg q := by
  simp [State.reg]
@[simp] theorem pc_readByte (p : Nat) : (s.readByte p).2.pc = s.pc := by
  unfold State.readByte; split <;> simp
@[simp] theorem y_readByte (p : Nat) : (s.readByte p).2.y = s.y := by
  unfold State.readByte; split <;> simp
@[simp] theorem flags_readByte (p : Nat) : (s.readByte p).2.flags = s.flags := by
  unfold State.readByte; split <;> simp
@[simp] theorem ia_readByte (p : Nat) : (s.readByte p).2.ia = s.ia := by
  unfold State.readByte; split <;> simp
@[simp] theorem cs_readByte (p : Nat) : (s.readByte p).2.cs = s.cs := by
  unfold State.readByte; split <;> simp
@[simp] theorem ds_readByte (p : Nat) : (s.readByte p).2.ds = s.ds := by
  unfold State.readByte; split <;> simp
@[simp] theorem ss_readByte (p : Nat) : (s.readByte p).2.ss = s.ss := by
  unfold State.readByte; split <;> simp
@[simp] theorem is_readByte (p : Nat) : (s.readByte p).2.is = s.is := by
  unfold State.readByte; split <;> simp
@[simp] theorem asleep_readByte (p : Nat) : (s.readByte p).2.asleep = s.asleep := by
  unfold State.readByte; split <;> simp
@[simp] theorem iack_readByte (p : Nat) : (s.readByte p).2.iack = s.iack := by
  unfold State.readByte; split <;> simp
@[simp] theorem mem_readByte (p : Nat) : (s.readByte p).2.mem = s.mem := by
  unfold State.readByte; split <;> simp
@[simp] theorem cfg_readByte (p : Nat) : (s.readByte p).2.cfg = s.cfg := by
  unfold State.readByte; split <;> simp
@[simp] theorem skipping_readByte (p : Nat) : (s.readByte p).2.skipping = s.skipping := by
  unfold State.readByte; split <;> simp
@[simp] theorem hwInt_readByte (p : Nat) : (s.readByte p).2.hwInt = s.hwInt := by
  unfold State.readByte; split <;> simp
@[simp] theorem kind_readByte (p : Nat) (a : Nat) : (s.readByte p).2.kind a = s.kind a := by
  simp [State.kind]
@[simp] theorem flag_readByte (p : Nat) (g : Flag) : (s.readByte p).2.flag g = s.flag g := by
  simp [State.flag]
@[simp] theorem gateOpen_readByte (p : Nat) : (s.readByte p).2.gateOpen = s.gateOpen := by
  simp [State.gateOpen]

/-! ### writeByte -/

@[simp] theorem regs_writeByte (p : Nat) (v : Byte) : (s.writeByte p v).regs = s.regs := by
  unfold State.writeByte; split <;> simp
@[simp] theorem reg_writeByte (p : Nat) (v : Byte) (q : Reg) : (s.writeByte p v).reg q = s.reg q := by
  simp [State.reg]
@[simp] theorem pc_writeByte (p : Nat) (v : Byte) : (s.writeByte p v).pc = s.pc := by
  unfold State.writeByte; split <;> simp
@[simp] theorem y_writeByte (p : Nat) (v : Byte) : (s.writeByte p v).y = s.y := by
  unfold State.writeByte; split <;> simp
@[simp] theorem flags_writeByte (p : Nat) (v : Byte) : (s.writeByte p v).flags = s.flags := by
  unfold State.writeByte; split <;> simp
@[simp] theorem ia_writeByte (p : Nat) (v : Byte) : (s.writeByte p v).ia = s.ia := by
  unfold State.writeByte; split <;> simp
@[simp] theorem cs_writeByte (p : Nat) (v : Byte) : (s.writeByte p v).cs = s.cs := by
  unfold State.writeByte; split <;> simp
@[simp] theorem ds_writeByte (p : Nat) (v : Byte) : (s.writeByte p v).ds = s.ds := by
  unfold State.writeByte; split <;> simp
@[simp] theorem ss_writeByte (p : Nat) (v : Byte) : (s.writeByte p v).ss = s.ss := by
  unfold State.writeByte; split <;> simp
@[simp] theorem is_writeByte (p : Nat) (v : Byte) : (s.writeByte p v).is = s.is := by
  unfold State.writeByte; split <;> simp
@[simp] theorem asleep_writeByte (p : Nat) (v : Byte) : (s.writeByte p v).asleep = s.asleep := by
  unfold State.writeByte; split <;> simp
@[simp] theorem iack_writeByte (p : Nat) (v : Byte) : (s.writeByte p v).iack = s.iack := by
  unfold State.writeByte; split <;> simp
@[simp] theorem cfg_writeByte (p : Nat) (v : Byte) : (s.writeByte p v).cfg = s.cfg := by
  unfold State.writeByte; split <;> simp
@[simp] theorem skipping_writeByte (p : Nat) (v : Byte) : (s.writeByte p v).skipping = s.skipping := by
  unfold State.writeByte; split <;> simp
@[simp] theorem devIn_writeByte (p : Nat) (v : Byte) : (s.writeByte p v).devIn = s.devIn := by
  unfold State.writeByte; split <;> simp
@[simp] theorem hwInt_writeByte (p : Nat) (v : Byte) : (s.writeByte p v).hwInt = s.hwInt := by
  unfold State.writeByte; split <;> simp
@[simp] theorem draws_writeByte (p : Nat) (v : Byte) : (s.writeByte p v).draws = s.draws := by
  unfold State.writeByte; split <;> simp
@[simp] theorem kind_writeByte (p : Nat) (v : Byte) (a : Nat) : (s.writeByte p v).kind a = s.kind a := by
  simp [State.kind]
@[simp] theorem flag_writeByte (p : Nat) (v : Byte) (g : Flag) : (s.writeByte p v).flag g = s.flag g := by
  simp [State.flag]
@[simp] theorem gateOpen_writeByte (p : Nat) (v : Byte) : (s.writeByte p v).gateOpen = s.gateOpen := by
  simp [State.gateOpen]

/-! ### readWord -/

@[simp] theorem regs_readWord (seg off : Word) : (s.readWord seg off).2.regs = s.regs := by
  simp [State.readWord]
@[simp] theorem reg_readWord (seg off : Word) (q : Reg) : (s.readWord seg off).2.reg q = s.reg q := by
  simp [State.reg]
@[simp] theorem pc_readWord (seg off : Word) : (s.readWord seg off).2.pc = s.pc := by
  simp [State.readWord]
@[simp] theorem y_readWord (seg off : Word) : (s.readWord seg off).2.y = s.y := by
  simp [State.readWord]
@[simp] theorem flags_readWord (seg off : Word) : (s.readWord seg off).2.flags = s.flags := by
  simp [State.readWord]
@[simp] theorem ia_readWord (seg off : Word) : (s.readWord seg off).2.ia = s.ia := by
  simp [State.readWord]
@[simp] theorem cs_readWord (seg off : Word) : (s.readWord seg off).2.cs = s.cs := by
  simp [State.readWord]
@[simp] theorem ds_readWord (seg off : Word) : (s.readWord seg off).2.ds = s.ds := by
  simp [State.readWord]
@[simp] theorem ss_readWord (seg off : Word) : (s.readWord seg off).2.ss = s.ss := by
  simp [State.readWord]
@[simp] theorem is_readWord (seg off : Word) : (s.readWord seg off).2.is = s.is := by
  simp [State.readWord]
@[simp] theorem asleep_readWord (seg off : Word) : (s.readWord seg off).2.asleep = s.asleep := by
  simp [State.readWord]
@[simp] theorem iack_readWord (seg off : Word) : (s.readWord seg off).2.iack = s.iack := by
  simp [State.readWord]
@[simp] theorem mem_readWord (seg off : Word) : (s.readWord seg off).2.mem = s.mem := by
  simp [State.readWord]
@[simp] theorem cfg_readWord (seg off : Word) : (s.readWord seg off).2.cfg = s.cfg := by
  simp [State.readWord]
@[simp] theorem skipping_readWord (seg off : Word) : (s.readWord seg off).2.skipping = s.skipping := by
  simp [State.readWord]
@[simp] theorem hwInt_readWord (seg off : Word) : (s.readWord seg off).2.hwInt = s.hwInt := by
  simp [State.readWord]
@[simp] theorem kind_readWord (seg off : Word) (a : Nat) : (s.readWord seg off).2.kind a = s.kind a := by
  simp [State.kind]
@[simp] theorem flag_readWord (seg off : Word) (g : Flag) : (s.readWord seg off).2.flag g = s.flag g := by
  simp [State.flag]
@[simp] theorem gateOpen_readWord (seg off : Word) : (s.readWord seg off).2.gateOpen = s.gateOpen := by
  simp [State.gateOpen]

/-! ### writeWord -/

@[simp] theorem regs_writeWord (seg off v : Word) : (s.writeWord seg off v).regs = s.regs := by
  simp [State.writeWord]
@[simp] theorem reg_writeWord (seg off v : Word) (q : Reg) : (s.writeWord seg off v).reg q = s.reg q := by
  simp [State.reg]
@[simp] theorem pc_writeWord (seg off v : Word) : (s.writeWord seg off v).pc = s.pc := by
  simp [State.writeWord]
@[simp] theorem y_writeWord (seg off v : Word) : (s.writeWord seg off v).y = s.y := by
  simp [State.writeWord]
@[simp] theorem flags_writeWord (seg off v : Word) : (s.writeWord seg off v).flags = s.flags := by
  simp [State.writeWord]
@[simp] theorem ia_writeWord (seg off v : Word) : (s.writeWord seg off v).ia = s.ia := by
  simp [State.writeWord]
@[simp] theorem cs_writeWord (seg off v : Word) : (s.writeWord seg off v).cs = s.cs := by
  simp [State.writeWord]
@[simp] theorem ds_writeWord (seg off v : Word) : (s.writeWord seg off v).ds = s.ds := by
  simp [State.writeWord]
@[simp] theorem ss_writeWord (seg off v : Word) : (s.writeWord seg off v).ss = s.ss := by
  simp [State.writeWord]
@[simp] theorem is_writeWord (seg off v : Word) : (s.writeWord seg off v).is = s.is := by
  simp [State.writeWord]
@[simp] theorem asleep_writeWord (seg off v : Word) : (s.writeWord seg off v).asleep = s.asleep := by
  simp [State.writeWord]
@[simp] theorem iack_writeWord (seg off v : Word) : (s.writeWord seg off v).iack = s.iack := by
  simp [State.writeWord]
@[simp] theorem cfg_writeWord (seg off v : Word) : (s.writeWord seg off v).cfg = s.cfg := by
  simp [State.writeWord]
@[simp] theorem skipping_writeWord (seg off v : Word) : (s.writeWord seg off v).skipping = s.skipping := by
  simp [State.writeWord]
@[simp] theorem devIn_writeWord (seg off v : Word) : (s.writeWord seg off v).devIn = s.devIn := by
  simp [State.writeWord]
@[simp] theorem hwInt_writeWord (seg off v : Word) : (s.writeWord seg off v).hwInt = s.hwInt := by
  simp [State.writeWord]
@[simp] theorem draws_writeWord (seg off v : Word) : (s.writeWord seg off v).draws = s.draws := by
  simp [State.writeWord]
@[simp] theorem kind_writeWord (seg off v : Word) (a : Nat) : (s.writeWord seg off v).kind a = s.kind a := by
  simp [State.kind]
@[simp] theorem flag_writeWord (seg off v : Word) (g : Flag) : (s.writeWord seg off v).flag g = s.flag g := by
  simp [State.flag]
@[simp] theorem gateOpen_writeWord (seg off v : Word) : (s.writeWord seg off v).gateOpen = s.gateOpen := by
  simp [State.gateOpen]

/-! ### push16 -/

theorem reg_push16 (v : Word) (q : Reg) (h15 : q ≠ 15#4) : (s.push16 v).reg q = s.reg q := by
  unfold State.push16; split <;> simp [reg_setReg, h15]
@[simp] theorem pc_push16 (v : Word) : (s.push16 v).pc = s.pc := by
  unfold State.push16; split <;> simp
@[simp] theorem y_push16 (v : Word) : (s.push16 v).y = s.y := by
  unfold State.push16; split <;> simp
@[simp] theorem flags_push16 (v : Word) : (s.push16 v).flags = s.flags := by
  unfold State.push16; split <;> simp
@[simp] theorem ia_push16 (v : Word) : (s.push16 v).ia = s.ia := by
  unfold State.push16; split <;> simp
@[simp] theorem cs_push16 (v : Word) : (s.push16 v).cs = s.cs := by
  unfold State.push16; split <;> simp
@[simp] theorem ds_push16 (v : Word) : (s.push16 v).ds = s.ds := by
  unfold State.push16; split <;> simp
@[simp] theorem ss_push16 (v : Word) : (s.push16 v).ss = s.ss := by
  unfold State.push16; split <;> simp
@[simp] theorem is_push16 (v : Word) : (s.push16 v).is = s.is := by
  unfold State.push16; split <;> simp
@[simp] theorem asleep_push16 (v : Word) : (s.push16 v).asleep = s.asleep := by
  unfold State.push16; split <;> simp
@[simp] theorem iack_push16 (v : Word) : (s.push16 v).iack = s.iack := by
  unfold State.push16; split <;> simp
@[simp] theorem cfg_push16 (v : Word) : (s.push16 v).cfg = s.cfg := by
  unfold State.push16; split <;> simp
@[simp] theorem skipping_push16 (v : Word) : (s.push16 v).skipping = s.skipping := by
  unfold State.push16; split <;> simp
@[simp] theorem devIn_push16 (v : Word) : (s.push16 v).devIn = s.devIn := by
  unfold State.push16; split <;> simp
@[simp] theorem hwInt_push16 (v : Word) : (s.push16 v).hwInt = s.hwInt := by
  unfold State.push16; split <;> simp
@[simp] theorem draws_push16 (v : Word) : (s.push16 v).draws = s.draws := by
  unfold State.push16; split <;> simp
@[simp] theorem kind_push16 (v : Word) (a : Nat) : (s.push16 v).kind a = s.kind a := by
  simp [State.kind]
@[simp] theorem flag_push16 (v : Word) (g : Flag) : (s.push16 v).flag g = s.flag g := by
  simp [State.flag]
@[simp] theorem gateOpen_push16 (v : Word) : (s.push16 v).gateOpen = s.gateOpen := by
  simp [State.gateOpen]

/-! ### pop16 -/

theorem reg_pop16 (q : Reg) (h15 : q ≠ 15#4) : (s.pop16).2.reg q = s.reg q := by
  unfold State.pop16; split <;> simp [reg_setReg, h15]
@[simp] theorem pc_pop16 : (s.pop16).2.pc = s.pc := by
  unfold State.pop16; split <;> simp
@[simp] theorem y_pop16 : (s.pop16).2.y = s.y := by
  unfold State.pop16; split <;> simp
@[simp] theorem flags_pop16 : (s.pop16).2.flags = s.flags := by
  unfold State.pop16; split <;> simp
@[simp] theorem ia_pop16 : (s.pop16).2.ia = s.ia := by
  unfold State.pop16; split <;> simp
@[simp] theorem cs_pop16 : (s.pop16).2.cs = s.cs := by
  unfold State.pop16; split <;> simp
@[simp] theorem ds_pop16 : (s.pop16).2.ds = s.ds := by
  unfold State.pop16; split <;> simp
@[simp] theorem ss_pop16 : (s.pop16).2.ss = s.ss := by
  unfold State.pop16; split <;> simp
@[simp] theorem is_pop16 : (s.pop16).2.is = s.is := by
  unfold State.pop16; split <;> simp
@[simp] theorem asleep_pop16 : (s.pop16).2.asleep = s.asleep := by
  unfold State.pop16; split <;> simp
@[simp] theorem iack_pop16 : (s.pop16).2.iack = s.iack := by
  unfold State.pop16; split <;> simp
@[simp] theorem mem_pop16 : (s.pop16).2.mem = s.mem := by
  unfold State.pop16; split <;> simp
@[simp] theorem cfg_pop16 : (s.pop16).2.cfg = s.cfg := by
  unfold State.pop16; split <;> simp
@[simp] theorem skipping_pop16 : (s.pop16).2.skipping = s.skipping := by
  unfold State.pop16; split <;> simp
@[simp] theorem hwInt_pop16 : (s.pop16).2.hwInt = s.hwInt := by
  unfold State.pop16; split <;> simp
@[simp] theorem kind_pop16 (a : Nat) : (s.pop16).2.kind a = s.kind a := by
  simp [State.kind]
@[simp] theorem flag_pop16 (g : Flag) : (s.pop16).2.flag g = s.flag g := by
  simp [State.flag]
@[simp] theorem gateOpen_pop16 : (s.pop16).2.gateOpen = s.gateOpen := by
  simp [State.gateOpen]

/-! ### advancePc -/

@[simp] theorem regs_advancePc : (s.advancePc).regs = s.regs := by
  simp only [State.advancePc]; split <;> simp
@[simp] theorem reg_advancePc (q : Reg) : (s.advancePc).reg q = s.reg q := by
  simp [State.reg]
@[simp] theorem y_advancePc : (s.advancePc).y = s.y := by
  simp only [State.advancePc]; split <;> simp
@[simp] theorem flags_advancePc : (s.advancePc).flags = s.flags := by
  simp only [State.advancePc]; split <;> simp
@[simp] theorem ia_advancePc : (s.advancePc).ia = s.ia := by
  simp only [State.advancePc]; split <;> simp
@[simp] theorem ds_advancePc : (s.advancePc).ds = s.ds := by
  simp only [State.advancePc]; split <;> simp
@[simp] theorem ss_advancePc : (s.advancePc).ss = s.ss := by
  simp only [State.advancePc]; split <;> simp
@[simp] theorem is_advancePc : (s.advancePc).is = s.is := by
  simp only [State.advancePc]; split <;> simp
@[simp] theorem asleep_advancePc : (s.advancePc).asleep = s.asleep := by
  simp only [State.advancePc]; split <;> simp
@[simp] theorem iack_advancePc : (s.advancePc).iack = s.iack := by
  simp only [State.advancePc]; split <;> simp
@[simp] theorem mem_advancePc : (s.advancePc).mem = s.mem := by
  simp only [State.advancePc]; split <;> simp
@[simp] theorem cfg_advancePc : (s.advancePc).cfg = s.cfg := by
  simp only [State.advancePc]; split <;> simp
@[simp] theorem skipping_advancePc : (s.advancePc).skipping = s.skipping := by
  simp only [State.advancePc]; split <;> simp
@[simp] theorem devIn_advancePc : (s.advancePc).devIn = s.devIn := by
  simp only [State.advancePc]; split <;> simp
@[simp] theorem hwInt_advancePc : (s.advancePc).hwInt = s.hwInt := by
  simp only [State.advancePc]; split <;> simp
@[simp] theorem busLog_advancePc : (s.advancePc).busLog = s.busLog := by
  simp only [State.advancePc]; split <;> simp
@[simp] theorem draws_advancePc : (s.advancePc).draws = s.draws := by
  simp only [State.advancePc]; split <;> simp
@[simp] theorem kind_advancePc (a : Nat) : (s.advancePc).kind a = s.kind a := by
  simp [State.kind]
@[simp] theorem flag_advancePc (g : Flag) : (s.advancePc).flag g = s.flag g := by
  simp [State.flag]
@[simp] theorem gateOpen_advancePc : (s.advancePc).gateOpen = s.gateOpen := by
  simp [State.gateOpen]

/-! ### enter -/

theorem reg_enter (m : Word) (q : Reg) (h1 : q ≠ 1#4) (h15 : q ≠ 15#4) : (s.enter m).reg q = s.reg q := by
  simp [State.enter, reg_setReg, reg_push16, h1, h15]
@[simp] theorem y_enter (m : Word) : (s.enter m).y = s.y := by
  simp [State.enter]
@[simp] theorem ia_enter (m : Word) : (s.enter m).ia = s.ia := by
  simp [State.enter]
@[simp] theorem ds_enter (m : Word) : (s.enter m).ds = s.ds := by
  simp [State.enter]
@[simp] theorem ss_enter (m : Word) : (s.enter m).ss = s.ss := by
  simp [State.enter]
@[simp] theorem is_enter (m : Word) : (s.enter m).is = s.is := by
  simp [State.enter]
@[simp] theorem cfg_enter (m : Word) : (s.enter m).cfg = s.cfg := by
  simp [State.enter]
@[simp] theorem skipping_enter (m : Word) : (s.enter m).skipping = s.skipping := by
  simp [State.enter]
@[simp] theorem devIn_enter (m : Word) : (s.enter m).devIn = s.devIn := by
  simp [State.enter]
@[simp] theorem hwInt_enter (m : Word) : (s.enter m).hwInt = s.hwInt := by
  simp [State.enter]
@[simp] theorem draws_enter (m : Word) : (s.enter m).draws = s.draws := by
  simp [State.enter]
@[simp] theorem kind_enter (m : Word) (a : Nat) : (s.enter m).kind a = s.kind a := by
  simp [State.kind]

/-! ### leave -/

theorem reg_leave (q : Reg) (h1 : q ≠ 1#4) (h15 : q ≠ 15#4) : (s.leave).reg q = s.reg q := by
  simp [State.leave, reg_setReg, reg_pop16, h1, h15]
@[simp] theorem y_leave : (s.leave).y = s.y := by
  simp [State.leave]
@[simp] theorem ia_leave : (s.leave).ia = s.ia := by
  simp [State.leave]
@[simp] theorem ds_leave : (s.leave).ds = s.ds := by
  simp [State.leave]
@[simp] theorem ss_leave : (s.leave).ss = s.ss := by
  simp [State.leave]
@[simp] theorem is_leave : (s.leave).is = s.is := by
  simp [State.leave]
@[simp] theorem asleep_leave : (s.leave).asleep = s.asleep := by
  simp [State.leave]
@[simp] theorem mem_leave : (s.leave).mem = s.mem := by
  simp [State.leave]
@[simp] theorem cfg_leave : (s.leave).cfg = s.cfg := by
  simp [State.leave]
@[simp] theorem skipping_leave : (s.leave).skipping = s.skipping := by
  simp [State.leave]
@[simp] theorem hwInt_leave : (s.leave).hwInt = s.hwInt := by
  simp [State.leave]
@[simp] theorem kind_leave (a : Nat) : (s.leave).kind a = s.kind a := by
  simp [State.kind]

/-! ### raise -/

theorem reg_raise (m : Word) (q : Reg) (h1 : q ≠ 1#4) (h15 : q ≠ 15#4) : (s.raise m).reg q = s.reg q := by
  unfold State.raise; split
  · exact reg_enter s m q h1 h15
  · rfl
@[simp] theorem y_raise (m : Word) : (s.raise m).y = s.y := by
  unfold State.raise; split <;> simp
@[simp] theorem ia_raise (m : Word) : (s.raise m).ia = s.ia := by
  unfold State.raise; split <;> simp
@[simp] theorem ds_raise (m : Word) : (s.raise m).ds = s.ds := by
  unfold State.raise; split <;> simp
@[simp] theorem ss_raise (m : Word) : (s.raise m).ss = s.ss := by
  unfold State.raise; split <;> simp
@[simp] theorem is_raise (m : Word) : (s.raise m).is = s.is := by
  unfold State.raise; split <;> simp
@[simp] theorem cfg_raise (m : Word) : (s.raise m).cfg = s.cfg := by
  unfold State.raise; split <;> simp
@[simp] theorem skipping_raise (m : Word) : (s.raise m).skipping = s.skipping := by
  unfold State.raise; split <;> simp
@[simp] theorem devIn_raise (m : Word) : (s.raise m).devIn = s.devIn := by
  unfold State.raise; split <;> simp
@[simp] theorem hwInt_raise (m : Word) : (s.raise m).hwInt = s.hwInt := by
  unfold State.raise; split <;> simp
@[simp] theorem draws_raise (m : Word) : (s.raise m).draws = s.draws := by
  unfold State.raise; split <;> simp
@[simp] theorem kind_raise (m : Word) (a : Nat) : (s.raise m).kind a = s.kind a := by
  simp [State.kind]

/-! ### sampleInt -/

@[simp] theorem regs_sampleInt : (s.sampleInt).2.regs = s.regs := by
  unfold State.sampleInt; split <;> rfl
@[simp] theorem reg_sampleInt (q : Reg) : (s.sampleInt).2.reg q = s.reg q := by
  simp [State.reg]
@[simp] theorem pc_sampleInt : (s.sampleInt).2.pc = s.pc := by
  unfold State.sampleInt; split <;> rfl
@[simp] theorem y_sampleInt : (s.sampleInt).2.y = s.y := by
  unfold State.sampleInt; split <;> rfl
@[simp] theorem flags_sampleInt : (s.sampleInt).2.flags = s.flags := by
  unfold State.sampleInt; split <;> rfl
@[simp] theorem ia_sampleInt : (s.sampleInt).2.ia = s.ia := by
  unfold State.sampleInt; split <;> rfl
@[simp] theorem cs_sampleInt : (s.sampleInt).2.cs = s.cs := by
  unfold State.sampleInt; split <;> rfl
@[simp] theorem ds_sampleInt : (s.sampleInt).2.ds = s.ds := by
  unfold State.sampleInt; split <;> rfl
@[simp] theorem ss_sampleInt : (s.sampleInt).2.ss = s.ss := by
  unfold State.sampleInt; split <;> rfl
@[simp] theorem is_sampleInt : (s.sampleInt).2.is = s.is := by
  unfold State.sampleInt; split <;> rfl
@[simp] theorem asleep_sampleInt : (s.sampleInt).2.asleep = s.asleep := by
  unfold State.sampleInt; split <;> rfl
@[simp] theorem iack_sampleInt : (s.sampleInt).2.iack = s.iack := by
  unfold State.sampleInt; split <;> rfl
@[simp] theorem mem_sampleInt : (s.sampleInt).2.mem = s.mem := by
  unfold State.sampleInt; split <;> rfl
@[simp] theorem cfg_sampleInt : (s.sampleInt).2.cfg = s.cfg := by
  unfold State.sampleInt; split <;> rfl
@[simp] theorem skipping_sampleInt : (s.sampleInt).2.skipping = s.skipping := by
  unfold State.sampleInt; split <;> rfl
@[simp] theorem devIn_sampleInt : (s.sampleInt).2.devIn = s.devIn := by
  unfold State.sampleInt; split <;> rfl
@[simp] theorem busLog_sampleInt : (s.sampleInt).2.busLog = s.busLog := by
  unfold State.sampleInt; split <;> rfl
@[simp] theorem draws_sampleInt : (s.sampleInt).2.draws = s.draws := by
  unfold State.sampleInt; split <;> rfl
@[simp] theorem kind_sampleInt (a : Nat) : (s.sampleInt).2.kind a = s.kind a := by
  simp [State.kind]
@[simp] theorem flag_sampleInt (g : Flag) : (s.sampleInt).2.flag g = s.flag g := by
  simp [State.flag]
@[simp] theorem gateOpen_sampleInt : (s.sampleInt).2.gateOpen = s.gateOpen := by
  simp [State.gateOpen]

/-! ### offer -/

theorem reg_offer (hw : Option Word) (q : Reg) (h1 : q ≠ 1#4) (h15 : q ≠ 15#4) : (s.offer hw).reg q = s.reg q := by
  unfold State.offer; split
  · split
    · exact reg_enter s _ q h1 h15
    · rfl
  · rfl
@[simp] theorem y_offer (hw : Option Word) : (s.offer hw).y = s.y := by
  unfold State.offer; split; (split <;> simp); rfl
@[simp] theorem ia_offer (hw : Option Word) : (s.offer hw).ia = s.ia := by
  unfold State.offer; split; (split <;> simp); rfl
@[simp] theorem ds_offer (hw : Option Word) : (s.offer hw).ds = s.ds := by
  unfold State.offer; split; (split <;> simp); rfl
@[simp] theorem ss_offer (hw : Option Word) : (s.offer hw).ss = s.ss := by
  unfold State.offer; split; (split <;> simp); rfl
@[simp] theorem is_offer (hw : Option Word) : (s.offer hw).is = s.is := by
  unfold State.offer; split; (split <;> simp); rfl
@[simp] theorem cfg_offer (hw : Option Word) : (s.offer hw).cfg = s.cfg := by
  unfold State.offer; split; (split <;> simp); rfl
@[simp] theorem skipping_offer (hw : Option Word) : (s.offer hw).skipping = s.skipping := by
  unfold State.offer; split; (split <;> simp); rfl
@[simp] theorem devIn_offer (hw : Option Word) : (s.offer hw).devIn = s.devIn := by
  unfold State.offer; split; (split <;> simp); rfl
@[simp] theorem hwInt_offer (hw : Option Word) : (s.offer hw).hwInt = s.hwInt := by
  unfold State.offer; split; (split <;> simp); rfl
@[simp] theorem draws_offer (hw : Option Word) : (s.offer hw).draws = s.draws := by
  unfold State.offer; split; (split <;> simp); rfl
@[simp] theorem kind_offer (hw : Option Word) (a : Nat) : (s.offer hw).kind a = s.kind a := by
  simp [State.kind]

/-! ### boundary -/

theorem reg_boundary (armed : Bool) (q : Reg) (h1 : q ≠ 1#4) (h15 : q ≠ 15#4) : (s.boundary armed).reg q = s.reg q := by
  simp only [State.boundary]; split
  · simp [reg_enter, h1, h15]
  · simp [reg_offer, h1, h15]
@[simp] theorem y_boundary (armed : Bool) : (s.boundary armed).y = s.y := by
  simp only [State.boundary]; split <;> simp
@[simp] theorem ia_boundary (armed : Bool) : (s.boundary armed).ia = s.ia := by
  simp only [State.boundary]; split <;> simp
@[simp] theorem ds_boundary (armed : Bool) : (s.boundary armed).ds = s.ds := by
  simp only [State.boundary]; split <;> simp
@[simp] theorem ss_boundary (armed : Bool) : (s.boundary armed).ss = s.ss := by
  simp only [State.boundary]; split <;> simp
@[simp] theorem is_boundary (armed : Bool) : (s.boundary armed).is = s.is := by
  simp only [State.boundary]; split <;> simp
@[simp] theorem cfg_boundary (armed : Bool) : (s.boundary armed).cfg = s.cfg := by
  simp only [State.boundary]; split <;> simp
@[simp] theorem skipping_boundary (armed : Bool) : (s.boundary armed).skipping = s.skipping := by
  simp only [State.boundary]; split <;> simp
@[simp] theorem devIn_boundary (armed : Bool) : (s.boundary armed).devIn = s.devIn := by
  simp only [State.boundary]; split <;> simp
@[simp] theorem draws_boundary (armed : Bool) : (s.boundary armed).draws = s.draws := by
  simp only [State.boundary]; split <;> simp
@[simp] theorem kind_boundary (armed : Bool) (a : Nat) : (s.boundary armed).kind a = s.kind a := by
  simp [State.kind]

/-! ### sleepStep -/

theorem reg_sleepStep (q : Reg) (h1 : q ≠ 1#4) (h15 : q ≠ 15#4) : (s.sleepStep).reg q = s.reg q := by
  simp [State.sleepStep, reg_offer, h1, h15]
@[simp] theorem y_sleepStep : (s.sleepStep).y = s.y := by
  simp [State.sleepStep]
@[simp] theorem ia_sleepStep : (s.sleepStep).ia = s.ia := by
  simp [State.sleepStep]
@[simp] theorem ds_sleepStep : (s.sleepStep).ds = s.ds := by
  simp [State.sleepStep]
@[simp] theorem ss_sleepStep : (s.sleepStep).ss = s.ss := by
  simp [State.sleepStep]
@[simp] theorem is_sleepStep : (s.sleepStep).is = s.is := by
  simp [State.sleepStep]
@[simp] theorem cfg_sleepStep : (s.sleepStep).cfg = s.cfg := by
  simp [State.sleepStep]
@[simp] theorem skipping_sleepStep : (s.sleepStep).skipping = s.skipping := by
  simp [State.sleepStep]
@[simp] theorem devIn_sleepStep : (s.sleepStep).devIn = s.devIn := by
  simp [State.sleepStep]
@[simp] theorem draws_sleepStep : (s.sleepStep).draws = s.draws := by
  simp [State.sleepStep]
@[simp] theorem kind_sleepStep (a : Nat) : (s.sleepStep).kind a = s.kind a := by
  simp [State.kind]

end Sys2Proof.Machine.State
end

