-- ==== Sys2Proof/Laws/Ops.lean ====
section
/-! SUPPORT. For each shared operation, what it can do, said once: which byte it reads, what memory and
the device log are after it, and that memory keeps its canonical form. -/

namespace Sys2Proof.Machine
@[simp] theorem joinBytes_hiByte_loByte (v : Word) : joinBytes (hiByte v) (loByte v) = v := by
  apply BitVec.eq_of_getLsbD_eq
  intro i hi
  simp only [joinBytes, hiByte, loByte, BitVec.getLsbD_append, BitVec.getLsbD_extractLsb']
  by_cases h : i < 8
  · simp [h]
  · simp only [h , if_false, show i - 8 < 8 by omega, decide_true, Bool.true_and, show 8 + (i - 8) = i by omega]

@[simp] theorem hiByte_joinBytes (h l : Byte) : hiByte (joinBytes h l) = h := by
  apply BitVec.eq_of_getLsbD_eq
  intro i hi
  simp only [joinBytes, hiByte, BitVec.getLsbD_extractLsb', BitVec.getLsbD_append, hi, decide_true,
    Bool.true_and, show ¬(8 + i < 8) by omega, if_false, Nat.add_sub_cancel_left]

@[simp] theorem loByte_joinBytes (h l : Byte) : loByte (joinBytes h l) = l := by
  apply BitVec.eq_of_getLsbD_eq
  intro i hi
  simp only [joinBytes, loByte, BitVec.getLsbD_extractLsb', BitVec.getLsbD_append, hi, decide_true,
    Bool.true_and, Nat.zero_add, if_true]

theorem joinBytes_injective {h l h' l' : Byte} (e : joinBytes h l = joinBytes h' l') :
    h = h' ∧ l = l' :=
  ⟨by simpa using congrArg hiByte e, by simpa using congrArg loByte e⟩

/-- Three words apart on the stack: the physical addresses of one segment are as different as the
offsets. -/
theorem phys_ne (seg : Word) {o p : Word} (h : o ≠ p) : phys seg o ≠ phys seg p :=
  fun e => h ((phys_injective seg o p).mp e)

namespace State

variable (s : State)

/-! ## Reads -/

/-- RAM and ROM answer what they hold, and a read of them changes nothing. -/
theorem readByte_of_holds (p : Nat) (h : s.kind p = .ram ∨ s.kind p = .rom) :
    s.readByte p = (s.mem.read p, s) := by
  rcases h with h | h <;> simp [State.readByte, h]

/-- The same of a word. -/
theorem readWord_of_holdsWord (seg off : Word) (h : s.holdsWord seg off) :
    s.readWord seg off = (s.peekWord seg off, s) := by
  simp [State.readWord, s.readByte_of_holds _ h.1, s.readByte_of_holds _ h.2, State.peekWord, State.peek]

theorem ramWord.holds {s : State} {seg off : Word} (h : s.ramWord seg off) : s.holdsWord seg off :=
  ⟨.inl h.1, .inl h.2⟩

/-- A pop from RAM or ROM answers the word there, moves SP past it and changes nothing else. -/
theorem pop16_of_holdsWord (h : s.holdsWord s.ss s.sp) :
    s.pop16 = (s.stackWord s.sp, s.setSp (s.sp + 2#16)) := by
  have two (a : Word) : a + 1#16 + 1#16 = a + 2#16 := by rw [BitVec.add_assoc]; rfl
  unfold State.pop16 State.stackWord
  cases hb : s.cfg.stackByteOrder
  · have h1 := s.readByte_of_holds _ h.1
    have h2 := (s.setSp (s.sp + 1#16)).readByte_of_holds (phys s.ss (s.sp + 1#16)) h.2
    have h3 : (s.setSp (s.sp + 1#16)).ss = s.ss := rfl
    have h4 : (s.setSp (s.sp + 1#16)).sp = s.sp + 1#16 := by simp
    have h5 : (s.setSp (s.sp + 1#16)).setSp (s.sp + 2#16) = s.setSp (s.sp + 2#16) := by
      simp [State.setReg]
    simp only [h1, h3, h4, h2, two, h5]
    rfl
  · have h1 := s.readWord_of_holdsWord _ _ h
    simp only [h1]
    rfl

/-! ## Writes -/

/-- Only RAM takes a byte. -/
theorem mem_writeByte (p : Nat) (v : Byte) :
    (s.writeByte p v).mem = if s.kind p = .ram then s.mem.write p v else s.mem := by
  unfold State.writeByte; split <;> rename_i h <;> simp [h]

theorem busLog_writeByte_ram (p : Nat) (v : Byte) (h : s.kind p = .ram) :
    (s.writeByte p v).busLog = s.busLog := by simp [State.writeByte, h]

/-- What a written byte adds to the log of device accesses. -/
theorem busLog_writeByte (p : Nat) (v : Byte) :
    (s.writeByte p v).busLog = s.handed p v ++ s.busLog := by
  unfold State.writeByte State.handed; split <;> simp [*]

theorem wf_writeByte (p : Nat) (v : Byte) (hp : p < 2 ^ 20) (hw : s.mem.wf = true) :
    (s.writeByte p v).mem.wf = true := by
  rw [mem_writeByte]; split
  · exact Memory.wf_write _ _ _ hp hw
  · exact hw

/-- What a byte reads as after a byte has been written. -/
theorem read_writeByte (p a : Nat) (v : Byte) :
    (s.writeByte p v).mem.read a = if a = p ∧ s.kind p = .ram then v else s.mem.read a := by
  rw [mem_writeByte]
  by_cases h : s.kind p = .ram
  · simp only [h, if_true, and_true, Memory.read_write]
  · simp [h]

theorem read_writeByte_ne (p a : Nat) (v : Byte) (h : a ≠ p) :
    (s.writeByte p v).mem.read a = s.mem.read a := by
  rw [mem_writeByte]; split
  · exact Memory.read_write_ne _ _ _ _ h
  · rfl

theorem read_writeByte_not_ram (p a : Nat) (v : Byte) (h : s.kind a ≠ .ram) :
    (s.writeByte p v).mem.read a = s.mem.read a := by
  by_cases hp : a = p
  · subst hp; rw [mem_writeByte, if_neg h]
  · exact s.read_writeByte_ne p a v hp

theorem wf_writeWord (seg off v : Word) (hw : s.mem.wf = true) :
    (s.writeWord seg off v).mem.wf = true :=
  wf_writeByte _ _ _ (phys_lt _ _) (wf_writeByte _ _ _ (phys_lt _ _) hw)

theorem off_ne_succ (off : Word) : off ≠ off + 1#16 := by
  intro h; have := congrArg BitVec.toNat h; simp at this; omega

/-- What a byte reads as after a word has been written. -/
theorem read_writeWord (seg off v : Word) (a : Nat) :
    (s.writeWord seg off v).mem.read a =
      if a = phys seg (off + 1#16) ∧ s.kind a = .ram then loByte v
      else if a = phys seg off ∧ s.kind a = .ram then hiByte v else s.mem.read a := by
  unfold State.writeWord
  rw [read_writeByte, kind_writeByte, read_writeByte]
  by_cases h1 : a = phys seg (off + 1#16) <;> by_cases h2 : a = phys seg off <;> simp_all

theorem read_writeWord_ne (seg off v : Word) (a : Nat) (h : a ≠ phys seg off)
    (h' : a ≠ phys seg (off + 1#16)) : (s.writeWord seg off v).mem.read a = s.mem.read a := by
  unfold State.writeWord
  rw [read_writeByte_ne _ _ _ _ h', read_writeByte_ne _ _ _ _ h]

theorem read_writeWord_not_ram (seg off v : Word) (a : Nat) (h : s.kind a ≠ .ram) :
    (s.writeWord seg off v).mem.read a = s.mem.read a := by
  unfold State.writeWord
  rw [read_writeByte_not_ram _ _ _ _ (by simpa using h), read_writeByte_not_ram _ _ _ _ h]

theorem busLog_writeWord_ram (seg off v : Word) (h : s.ramWord seg off) :
    (s.writeWord seg off v).busLog = s.busLog := by
  unfold State.writeWord
  rw [busLog_writeByte_ram _ _ _ (by simpa using h.2), busLog_writeByte_ram _ _ _ h.1]

/-- What a written word adds to the log of device accesses: its high byte first, the newest event at
the head. -/
theorem busLog_writeWord (seg off v : Word) :
    (s.writeWord seg off v).busLog = s.handed (phys seg (off + 1#16)) (loByte v) ++
      (s.handed (phys seg off) (hiByte v) ++ s.busLog) := by
  unfold State.writeWord
  rw [busLog_writeByte, busLog_writeByte]
  simp [State.handed]

/-! ## The stack -/

theorem sub_one_one (a : Word) : a - 1#16 - 1#16 = a - 2#16 := by
  rw [BitVec.sub_sub]; rfl

theorem sub_two_add_one (a : Word) : a - 2#16 + 1#16 = a - 1#16 := by
  rw [← sub_one_one, BitVec.sub_add_cancel]

/-- The byte of a pushed word that lies at the lower address, SS:SP after the push. -/
def lowerStackByte (v : Word) : Byte :=
  match s.cfg.stackByteOrder with
  | .asWritten => loByte v
  | .bigEndian => hiByte v

/-- The byte of a pushed word that lies at the higher address. -/
def upperStackByte (v : Word) : Byte :=
  match s.cfg.stackByteOrder with
  | .asWritten => hiByte v
  | .bigEndian => loByte v

/-- Under either order, a push moves SP down by two and writes the two bytes above it. The one that is
written first depends on the order, but they lie at different addresses. -/
theorem push16_cases (v : Word) :
    (∃ u, u = s.setSp (s.sp - 1#16) ∧ s.push16 v =
      (((u.writeByte (phys s.ss (s.sp - 1#16)) (s.upperStackByte v)).setSp (s.sp - 2#16)).writeByte
        (phys s.ss (s.sp - 2#16)) (s.lowerStackByte v))) ∨
    (∃ u, u = s.setSp (s.sp - 2#16) ∧ s.push16 v =
      ((u.writeByte (phys s.ss (s.sp - 2#16)) (s.lowerStackByte v)).writeByte
        (phys s.ss (s.sp - 1#16)) (s.upperStackByte v))) := by
  unfold State.push16 lowerStackByte upperStackByte
  cases s.cfg.stackByteOrder
  · refine .inl ⟨_, rfl, ?_⟩
    simp [sub_one_one]
  · refine .inr ⟨_, rfl, ?_⟩
    simp [State.writeWord, sub_two_add_one]

theorem stack_bytes_ne (seg sp : Word) : phys seg (sp - 2#16) ≠ phys seg (sp - 1#16) :=
  phys_ne seg (by rw [← sub_two_add_one]; exact off_ne_succ _)

theorem wf_push16 (v : Word) (hw : s.mem.wf = true) : (s.push16 v).mem.wf = true := by
  rcases s.push16_cases v with ⟨u, rfl, e⟩ | ⟨u, rfl, e⟩ <;> rw [e]
  · exact wf_writeByte _ _ _ (phys_lt _ _) (wf_writeByte _ _ _ (phys_lt _ _) hw)
  · exact wf_writeByte _ _ _ (phys_lt _ _) (wf_writeByte _ _ _ (phys_lt _ _) hw)

/-- What a byte reads as after a push. -/
theorem read_push16 (v : Word) (a : Nat) :
    (s.push16 v).mem.read a =
      if a = phys s.ss (s.sp - 2#16) ∧ s.kind a = .ram then s.lowerStackByte v
      else if a = phys s.ss (s.sp - 1#16) ∧ s.kind a = .ram then s.upperStackByte v
      else s.mem.read a := by
  have hne := stack_bytes_ne s.ss s.sp
  rcases s.push16_cases v with ⟨u, rfl, e⟩ | ⟨u, rfl, e⟩ <;> rw [e]
  · have h1 := read_writeByte (s.setSp (s.sp - 1#16)) (phys s.ss (s.sp - 1#16)) a
      (s.upperStackByte v)
    have h2 := read_writeByte (((s.setSp (s.sp - 1#16)).writeByte (phys s.ss (s.sp - 1#16))
      (s.upperStackByte v)).setSp (s.sp - 2#16)) (phys s.ss (s.sp - 2#16)) a (s.lowerStackByte v)
    by_cases e1 : a = phys s.ss (s.sp - 2#16) <;> by_cases e2 : a = phys s.ss (s.sp - 1#16) <;>
      simp_all
  · have h1 := read_writeByte (s.setSp (s.sp - 2#16)) (phys s.ss (s.sp - 2#16)) a
      (s.lowerStackByte v)
    have h2 := read_writeByte ((s.setSp (s.sp - 2#16)).writeByte (phys s.ss (s.sp - 2#16))
      (s.lowerStackByte v)) (phys s.ss (s.sp - 1#16)) a (s.upperStackByte v)
    by_cases e1 : a = phys s.ss (s.sp - 2#16) <;> by_cases e2 : a = phys s.ss (s.sp - 1#16) <;>
      simp_all

theorem read_push16_ne (v : Word) (a : Nat) (h : a ≠ phys s.ss (s.sp - 2#16))
    (h' : a ≠ phys s.ss (s.sp - 1#16)) : (s.push16 v).mem.read a = s.mem.read a := by
  rcases s.push16_cases v with ⟨u, rfl, e⟩ | ⟨u, rfl, e⟩ <;> rw [e]
  · rw [read_writeByte_ne _ _ _ _ h]; exact read_writeByte_ne _ _ _ _ h'
  · rw [read_writeByte_ne _ _ _ _ h']; exact read_writeByte_ne _ _ _ _ h

theorem read_push16_not_ram (v : Word) (a : Nat) (h : s.kind a ≠ .ram) :
    (s.push16 v).mem.read a = s.mem.read a := by
  rcases s.push16_cases v with ⟨u, rfl, e⟩ | ⟨u, rfl, e⟩ <;> rw [e]
  · rw [read_writeByte_not_ram _ _ _ _ (by simpa using h)]
    exact read_writeByte_not_ram _ _ _ _ (by simpa using h)
  · rw [read_writeByte_not_ram _ _ _ _ (by simpa using h)]
    exact read_writeByte_not_ram _ _ _ _ (by simpa using h)

theorem busLog_push16_ram (v : Word) (h : s.ramWord s.ss (s.sp - 2#16)) :
    (s.push16 v).busLog = s.busLog := by
  have h2 := h.2
  rw [sub_two_add_one] at h2
  rcases s.push16_cases v with ⟨u, rfl, e⟩ | ⟨u, rfl, e⟩ <;> rw [e]
  · rw [busLog_writeByte_ram _ _ _ (by simpa using h.1)]
    exact busLog_writeByte_ram _ _ _ (by simpa using h2)
  · rw [busLog_writeByte_ram _ _ _ (by simpa using h2)]
    exact busLog_writeByte_ram _ _ _ (by simpa using h.1)

/-- The stack word at an offset depends only on the order, SS and the two bytes there. -/
theorem stackWord_congr (t : State) (off : Word) (hc : t.cfg = s.cfg) (hs : t.ss = s.ss)
    (h0 : t.mem.read (phys s.ss off) = s.mem.read (phys s.ss off))
    (h1 : t.mem.read (phys s.ss (off + 1#16)) = s.mem.read (phys s.ss (off + 1#16))) :
    t.stackWord off = s.stackWord off := by
  simp [State.stackWord, State.peek, hc, hs, h0, h1]

/-- The pushed word stands on the stack. -/
theorem stackWord_push16 (v : Word) (h : s.ramWord s.ss (s.sp - 2#16)) :
    (s.push16 v).stackWord (s.sp - 2#16) = v := by
  have hne := stack_bytes_ne s.ss s.sp
  have h1 := h.1
  have h2 := h.2
  have e1 := s.read_push16 v (phys s.ss (s.sp - 2#16))
  have e2 := s.read_push16 v (phys s.ss (s.sp - 1#16))
  rw [sub_two_add_one] at h2
  rw [if_pos ⟨rfl, h1⟩] at e1
  rw [if_neg (fun h => hne h.1.symm), if_pos ⟨rfl, h2⟩] at e2
  unfold State.stackWord State.peek
  simp only [cfg_push16, ss_push16, sub_two_add_one, e1, e2, lowerStackByte, upperStackByte]
  cases s.cfg.stackByteOrder <;> simp


/-! ## Taking an interrupt, and returning -/

/-- Memory after an entry is memory after its three pushes. -/
theorem mem_enter (m : Word) :
    (s.enter m).mem = (((s.push16 (s.reg 1#4)).push16 s.cs).push16 s.pc).mem := rfl

@[simp] theorem pc_enter (m : Word) : (s.enter m).pc = s.ia := by simp [State.enter]
@[simp] theorem cs_enter (m : Word) : (s.enter m).cs = s.is := by simp [State.enter]
@[simp] theorem iack_enter (m : Word) : (s.enter m).iack = true := by simp [State.enter]
@[simp] theorem asleep_enter (m : Word) : (s.enter m).asleep = false := by simp [State.enter]
@[simp] theorem reg_one_enter (m : Word) : (s.enter m).reg 1#4 = m := by simp [State.enter]
@[simp] theorem flags_enter (m : Word) : (s.enter m).flags = withBit s.flags 3 true := by
  simp [State.enter, State.setFlag, Flag.bit]
@[simp] theorem intf_enter (m : Word) : (s.enter m).flag .intf = true := by
  rw [State.flag, flags_enter]
  exact (getLsbD_withBit _ 3 3 true (by decide)).trans (by simp)
@[simp] theorem gateOpen_enter (m : Word) : (s.enter m).gateOpen = false := by
  simp [State.gateOpen]

theorem sub_two_two (a : Word) : a - 2#16 - 2#16 = a - 4#16 := by rw [BitVec.sub_sub]; rfl
theorem sub_four_two (a : Word) : a - 4#16 - 2#16 = a - 6#16 := by rw [BitVec.sub_sub]; rfl

@[simp] theorem sp_push16 (v : Word) : (s.push16 v).reg 15#4 = s.reg 15#4 - 2#16 := by
  rcases s.push16_cases v with ⟨u, rfl, e⟩ | ⟨u, rfl, e⟩ <;> rw [e] <;> simp

@[simp] theorem sp_enter (m : Word) : (s.enter m).reg 15#4 = s.reg 15#4 - 6#16 := by
  simp [State.enter, reg_setReg, sub_two_two, sub_four_two]

theorem wf_enter (m : Word) (hw : s.mem.wf = true) : (s.enter m).mem.wf = true := by
  rw [mem_enter]; exact wf_push16 _ _ (wf_push16 _ _ (wf_push16 _ _ hw))

theorem read_enter_not_ram (m : Word) (a : Nat) (h : s.kind a ≠ .ram) :
    (s.enter m).mem.read a = s.mem.read a := by
  rw [mem_enter, read_push16_not_ram _ _ _ (by simpa using h),
    read_push16_not_ram _ _ _ (by simpa using h), read_push16_not_ram _ _ _ h]

/-- The gate is open exactly when IA is not 0 and IF is 0. -/
theorem gateOpen_iff : s.gateOpen = true ↔ s.ia ≠ 0#16 ∧ s.flag .intf = false := by
  simp [State.gateOpen]

theorem gateOpen_eq_false_iff : s.gateOpen = false ↔ s.ia = 0#16 ∨ s.flag .intf = true := by
  simp [State.gateOpen]; tauto

theorem raise_of_open (m : Word) (h : s.gateOpen = true) : s.raise m = s.enter m := by
  simp [State.raise, h]

theorem raise_of_closed (m : Word) (h : s.gateOpen = false) : s.raise m = s := by
  simp [State.raise, h]

theorem offer_of_open (m : Word) (h : s.gateOpen = true) : s.offer (some m) = s.enter m := by
  simp [State.offer, h]

theorem offer_of_closed (hw : Option Word) (h : s.gateOpen = false) : s.offer hw = s := by
  cases hw <;> simp [State.offer, h]

@[simp] theorem offer_none : s.offer none = s := rfl

/-- What a request can do to a state: nothing, or an entry. -/
theorem offer_cases (hw : Option Word) : s.offer hw = s ∨ ∃ m, s.offer hw = s.enter m := by
  cases hw with
  | none => exact .inl rfl
  | some m =>
    by_cases h : s.gateOpen = true
    · exact .inr ⟨m, s.offer_of_open m h⟩
    · exact .inl (s.offer_of_closed _ (by simpa using h))

theorem raise_cases (m : Word) : s.raise m = s ∨ s.raise m = s.enter m := by
  unfold State.raise; split <;> simp

/-- The sample takes the head off the script of the INT line. -/
theorem sampleInt_snd : s.sampleInt.2 = s.setHwInt s.hwInt.tail := by
  unfold State.sampleInt; split <;> rename_i h
  · cases s; simp_all [State.setHwInt]
  · simp [h]

/-- What the boundary can do: use one sample of the INT line, and then nothing or an entry. -/
theorem boundary_cases (armed : Bool) :
    s.boundary armed = s.setHwInt s.hwInt.tail ∨
      ∃ m, s.boundary armed = (s.setHwInt s.hwInt.tail).enter m := by
  simp only [State.boundary, sampleInt_snd]
  split
  · exact .inr ⟨_, rfl⟩
  · exact offer_cases _ _

theorem boundary_of_closed (armed : Bool) (h : s.gateOpen = false) :
    s.boundary armed = s.setHwInt s.hwInt.tail := by
  have h' : (s.setHwInt s.hwInt.tail).gateOpen = false := h
  simp [State.boundary, sampleInt_snd, h', offer_of_closed]

theorem sleepStep_cases :
    s.sleepStep = s.setHwInt s.hwInt.tail ∨ ∃ m, s.sleepStep = (s.setHwInt s.hwInt.tail).enter m := by
  simp only [State.sleepStep, sampleInt_snd]
  exact offer_cases _ _

theorem wf_raise (m : Word) (hw : s.mem.wf = true) : (s.raise m).mem.wf = true := by
  rcases s.raise_cases m with e | e <;> rw [e]
  · exact hw
  · exact s.wf_enter m hw

theorem read_raise_not_ram (m : Word) (a : Nat) (h : s.kind a ≠ .ram) :
    (s.raise m).mem.read a = s.mem.read a := by
  rcases s.raise_cases m with e | e <;> rw [e]
  exact s.read_enter_not_ram m a h

theorem wf_boundary (armed : Bool) (hw : s.mem.wf = true) : (s.boundary armed).mem.wf = true := by
  rcases s.boundary_cases armed with e | ⟨m, e⟩ <;> rw [e]
  · exact hw
  · exact wf_enter _ m hw

theorem read_boundary_not_ram (armed : Bool) (a : Nat) (h : s.kind a ≠ .ram) :
    (s.boundary armed).mem.read a = s.mem.read a := by
  rcases s.boundary_cases armed with e | ⟨m, e⟩ <;> rw [e]
  · rfl
  · exact read_enter_not_ram _ m a h

theorem wf_sleepStep (hw : s.mem.wf = true) : s.sleepStep.mem.wf = true := by
  rcases s.sleepStep_cases with e | ⟨m, e⟩ <;> rw [e]
  · exact hw
  · exact wf_enter _ m hw

theorem read_sleepStep_not_ram (a : Nat) (h : s.kind a ≠ .ram) :
    s.sleepStep.mem.read a = s.mem.read a := by
  rcases s.sleepStep_cases with e | ⟨m, e⟩ <;> rw [e]
  · rfl
  · exact read_enter_not_ram _ m a h

@[simp] theorem sp_pop16 : s.pop16.2.reg 15#4 = s.reg 15#4 + 2#16 := by
  have two (a : Word) : a + 1#16 + 1#16 = a + 2#16 := by rw [BitVec.add_assoc]; rfl
  unfold State.pop16
  cases s.cfg.stackByteOrder <;> simp [two]

theorem reg_leave_ne (q : Reg) (h1 : q ≠ 1#4) (h15 : q ≠ 15#4) :
    s.leave.reg q = s.reg q := by simp [reg_leave, h1, h15]

@[simp] theorem iack_leave : s.leave.iack = false := by simp [State.leave]

@[simp] theorem flags_leave : s.leave.flags = withBit s.flags 3 false := by
  simp [State.leave, State.setFlag, Flag.bit]

/-! ## Fetching and skipping -/

/-- What a fetch can do: refuse at PC = 0xFFFF, else answer the word at CS:PC and move PC past it. -/
theorem fetch16_cases :
    (s.pc = 0xFFFF#16 ∧ s.fetch16 = .error .straddlingFetch) ∨
    (s.pc ≠ 0xFFFF#16 ∧
      s.fetch16 = .ok ((s.readWord s.cs s.pc).1, (s.readWord s.cs s.pc).2.advancePc)) := by
  unfold State.fetch16
  by_cases h : s.pc = 0xFFFF#16
  · exact .inl ⟨h, by simp [h]⟩
  · exact .inr ⟨h, by simp [h]⟩

theorem fetch16_of_ne (h : s.pc ≠ 0xFFFF#16) :
    s.fetch16 = .ok ((s.readWord s.cs s.pc).1, (s.readWord s.cs s.pc).2.advancePc) := by
  rcases s.fetch16_cases with ⟨h', _⟩ | ⟨_, e⟩
  · exact absurd h' h
  · exact e

theorem fetch16_of_holdsWord (h : s.pc ≠ 0xFFFF#16) (hw : s.holdsWord s.cs s.pc) :
    s.fetch16 = .ok (s.peekWord s.cs s.pc, s.advancePc) := by
  rw [s.fetch16_of_ne h, s.readWord_of_holdsWord _ _ hw]

/-- A fetch that answers changes memory, registers other than PC and CS, and FLAGS not at all. -/
theorem fetch16_ok {w : Word} {t : State} (h : s.fetch16 = .ok (w, t)) :
    t.regs = s.regs ∧ t.flags = s.flags ∧ t.mem = s.mem ∧ t.y = s.y ∧ t.ia = s.ia ∧ t.ds = s.ds ∧
      t.ss = s.ss ∧ t.is = s.is ∧ t.asleep = s.asleep ∧ t.iack = s.iack ∧ t.cfg = s.cfg ∧
      t.hwInt = s.hwInt ∧ t.skipping = s.skipping := by
  rcases s.fetch16_cases with ⟨_, e⟩ | ⟨_, e⟩ <;> rw [e] at h
  · cases h
  · cases h; simp

/-- What fetching an instruction can answer. -/
theorem fetchInstr_ok {i : Instr} {t : State} (h : s.fetchInstr = .ok (i, t)) :
    ∃ w s1, s.fetch16 = .ok (w, s1) ∧
      ((decodeWords w 0#16 = .ok i ∧ i.words = 1 ∧ t = s1) ∨
        ∃ j x, decodeWords w 0#16 = .ok j ∧ j.words ≠ 1 ∧ s1.fetch16 = .ok (x, t) ∧
          decodeWords w x = .ok i) := by
  unfold State.fetchInstr at h
  split at h
  · cases h
  · rename_i w s1 h1
    refine ⟨w, s1, h1, ?_⟩
    split at h
    · cases h
    · rename_i j hj
      split at h
      · cases h; exact .inl ⟨hj, by assumption, rfl⟩
      · split at h
        · cases h
        · rename_i x s2 h2
          split at h
          · cases h
          · cases h; exact .inr ⟨j, x, hj, by assumption, h2, by assumption⟩

/-- Fetching an instruction changes only PC and CS, and what reading devices changes. -/
theorem fetchInstr_kept {i : Instr} {t : State} (h : s.fetchInstr = .ok (i, t)) :
    t.regs = s.regs ∧ t.flags = s.flags ∧ t.mem = s.mem ∧ t.y = s.y ∧ t.ia = s.ia ∧ t.ds = s.ds ∧
      t.ss = s.ss ∧ t.is = s.is ∧ t.asleep = s.asleep ∧ t.iack = s.iack ∧ t.cfg = s.cfg ∧
      t.hwInt = s.hwInt ∧ t.skipping = s.skipping := by
  obtain ⟨w, s1, h1, ⟨_, _, rfl⟩ | ⟨j, x, _, _, h2, _⟩⟩ := s.fetchInstr_ok h
  · exact s.fetch16_ok h1
  · have a := s.fetch16_ok h1
    have b := s1.fetch16_ok h2
    simp_all

/-- Passing over an instruction answers exactly as `PassesOver` says. -/
theorem skipInstr_ok_iff (i : Instr) (t : State) :
    s.skipInstr = .ok (i, t) ↔ PassesOver s i t := by
  constructor
  · intro h
    unfold State.skipInstr at h
    rcases s.fetch16_cases with ⟨_, e⟩ | ⟨hp, e⟩ <;> simp only [e] at h
    · cases h
    · split at h
      · cases h
      · rename_i j hj
        split at h
        · rename_i hw
          cases h
          exact ⟨hp, hj, fun _ => rfl, fun h => absurd hw h⟩
        · rename_i hw
          split at h
          · cases h
          · rename_i hp'
            cases h
            exact ⟨hp, hj, fun h => absurd h hw, fun _ => ⟨hp', rfl⟩⟩
  · rintro ⟨hp, hj, h1, h2⟩
    unfold State.skipInstr
    simp only [s.fetch16_of_ne hp, hj]
    by_cases hw : i.words = 1
    · simp [hw, h1 hw]
    · simp [hw, (h2 hw).1, (h2 hw).2]

/-- Passing over an instruction changes only PC and CS, and what reading devices changes. -/
theorem skipInstr_kept {i : Instr} {t : State} (h : s.skipInstr = .ok (i, t)) :
    t.regs = s.regs ∧ t.flags = s.flags ∧ t.mem = s.mem ∧ t.y = s.y ∧ t.ia = s.ia ∧ t.ds = s.ds ∧
      t.ss = s.ss ∧ t.is = s.is ∧ t.asleep = s.asleep ∧ t.iack = s.iack ∧ t.cfg = s.cfg ∧
      t.hwInt = s.hwInt ∧ t.skipping = s.skipping := by
  obtain ⟨_, _, h1, h2⟩ := (s.skipInstr_ok_iff i t).mp h
  by_cases hw : i.words = 1
  · rw [h1 hw]; simp
  · rw [(h2 hw).2]; simp

theorem skipChain_zero : State.skipChain 0 s = .next (s.setSkipping true) := rfl

theorem skipChain_succ (fuel : Nat) :
    State.skipChain (fuel + 1) s = match s.skipInstr with
      | .error r => .refused r
      | .ok (i, s1) => if i.isConditional then State.skipChain fuel s1 else .next s1 := rfl

/-- As much of a skip as one step passes changes only PC and CS, what reading devices changes, and
whether the skip is still on its way. -/
theorem skipChain_kept (fuel : Nat) {t : State} (h : State.skipChain fuel s = .next t) :
    t.regs = s.regs ∧ t.flags = s.flags ∧ t.mem = s.mem ∧ t.y = s.y ∧ t.ia = s.ia ∧ t.ds = s.ds ∧
      t.ss = s.ss ∧ t.is = s.is ∧ t.asleep = s.asleep ∧ t.iack = s.iack ∧ t.cfg = s.cfg ∧
      t.hwInt = s.hwInt ∧ (t.skipping = s.skipping ∨ t.skipping = true) := by
  induction fuel generalizing s with
  | zero => cases h; simp
  | succ n ih =>
    rw [skipChain_succ] at h
    split at h
    · cases h
    · rename_i i s1 h1
      have a := s.skipInstr_kept h1
      split at h
      · have b := ih s1 h
        simp_all
      · cases h; simp [a]

theorem conditional_true : s.conditional true = .next s := rfl

theorem conditional_false : s.conditional false = State.skipChain skipFuel s := rfl

/-! ## The end of a step -/

theorem endStep_of_skipping (armed : Bool) (h : s.skipping = true) : s.endStep armed = s := by
  simp [State.endStep, h]

theorem endStep_of_not_skipping (armed : Bool) (h : s.skipping = false) :
    s.endStep armed = s.boundary armed := by simp [State.endStep, h]

/-- What the end of a step can do: nothing, or the boundary. -/
theorem endStep_cases (armed : Bool) : s.endStep armed = s ∨ s.endStep armed = s.boundary armed := by
  unfold State.endStep; split <;> simp

/-- What a step can do: a step of the sleeping core, or the end of a step after as much of a skip as
one step passes, or after the instruction that was fetched. -/
theorem step_cases {t : State} (h : step s = .next t) :
    (s.asleep = true ∧ t = s.sleepStep) ∨
    (s.asleep = false ∧ s.skipping = true ∧
      ∃ u, State.skipChain skipFuel (s.setSkipping false) = .next u ∧ t = u.endStep s.stepArmed) ∨
    (s.asleep = false ∧ s.skipping = false ∧
      ∃ i s1 u, s.fetchInstr = .ok (i, s1) ∧ exec i s1 = .next u ∧ t = u.endStep s.stepArmed) := by
  have ends {o : Host.Outcome State Fault Refusal} (h : endOutcome s.stepArmed o = .next t) :
      ∃ u, o = .next u ∧ t = u.endStep s.stepArmed := by
    cases o with
    | next u => cases h; exact ⟨u, rfl, rfl⟩
    | fault f => cases h
    | refused r => cases h
  unfold step at h
  split at h
  · rename_i ha; cases h; exact .inl ⟨ha, rfl⟩
  · rename_i ha
    have ha : s.asleep = false := by simpa using ha
    split at h
    · rename_i hs; exact .inr (.inl ⟨ha, hs, ends h⟩)
    · rename_i hs
      split at h
      · cases h
      · rename_i i s1 hf
        obtain ⟨u, hu, ht⟩ := ends h
        exact .inr (.inr ⟨ha, by simpa using hs, i, s1, u, hf, hu, ht⟩)

/-- A run that begins with a step that answers goes on from what it answers. -/
theorem run_of_step {k : Nat} {t : State} (h : step s = .next t) : core.run (k + 1) s = core.run k t := by
  have general (M : Host.Core) (a b : M.State) (h : M.step a = .next b) :
      M.run (k + 1) a = M.run k b := by simp only [Host.Core.run, h]
  exact general core s t h

/-! ## Reset -/

theorem wf_reset : State.reset.mem.wf = true := rfl

end State
end Sys2Proof.Machine
end

