-- ==== Sys2Proof/Laws/Exec.lean ====
section
/-! SUPPORT. For each operation that several instructions share (the results of the ALU, loads, stores,
input, the relative jump): what it comes to in each case, what it keeps, and that memory keeps its
canonical form and what is not RAM. -/

namespace Sys2Proof.Machine.State

variable (s : State)

/-! ## Results with flags -/

/-- What ADD, ADDC, SUB and SUBB write before any interrupt: the result, CF and OF. -/
def arithWritten (r3 : Reg) (r : ArithResult) : State :=
  ((s.setReg r3 r.value).setFlag .cf r.carry).setFlag .ovf r.overflow

@[simp] theorem gateOpen_arithWritten (r3 : Reg) (r : ArithResult) :
    (s.arithWritten r3 r).gateOpen = s.gateOpen := by
  simp [arithWritten, gateOpen_setFlag_ne]

/-- An overflow with TOE set requests the interrupt with message 4; anything else does not. -/
theorem finishArith_eq (r3 : Reg) (r : ArithResult) : s.finishArith r3 r =
    if r.overflow && s.flag .toe then (s.arithWritten r3 r).raise 4#16 else s.arithWritten r3 r := rfl

theorem finishArith_cases (r3 : Reg) (r : ArithResult) :
    s.finishArith r3 r = s.arithWritten r3 r ∨
      s.finishArith r3 r = (s.arithWritten r3 r).enter 4#16 := by
  rw [finishArith_eq]; split
  · exact raise_cases _ _
  · exact .inl rfl

theorem finishArith_of_not_taken (r3 : Reg) (r : ArithResult)
    (h : r.overflow = false ∨ s.flag .toe = false ∨ s.gateOpen = false) :
    s.finishArith r3 r = s.arithWritten r3 r := by
  rw [finishArith_eq]
  rcases h with h | h | h
  · simp [h]
  · simp [h]
  · rw [raise_of_closed _ _ (by simpa using h)]; simp

theorem finishArith_of_taken (r3 : Reg) (r : ArithResult) (ho : r.overflow = true)
    (ht : s.flag .toe = true) (hg : s.gateOpen = true) :
    s.finishArith r3 r = (s.arithWritten r3 r).enter 4#16 := by
  rw [finishArith_eq, ho, ht, raise_of_open _ _ (by simpa using hg)]; rfl

theorem divError_eq : s.divError =
    if s.flag .tde then (s.setFlag .de true).raise 0#16 else s.setFlag .de true := rfl

theorem divError_cases : s.divError = s.setFlag .de true ∨
    s.divError = (s.setFlag .de true).enter 0#16 := by
  rw [divError_eq]; split
  · exact raise_cases _ _
  · exact .inl rfl

theorem divError_of_not_taken (h : s.flag .tde = false ∨ s.gateOpen = false) :
    s.divError = s.setFlag .de true := by
  rw [divError_eq]
  rcases h with h | h
  · simp [h]
  · rw [raise_of_closed _ _ (by simpa [gateOpen_setFlag_ne] using h)]; simp

theorem divError_of_taken (ht : s.flag .tde = true) (hg : s.gateOpen = true) :
    s.divError = (s.setFlag .de true).enter 0#16 := by
  rw [divError_eq, ht, raise_of_open _ _ (by simpa [gateOpen_setFlag_ne] using hg)]; rfl

theorem divide_of_ne (r3 : Reg) (b : Word) (q : BitVec 32) (h : b ≠ 0#16) :
    s.divide r3 b q = (s.setYReg r3 q).setFlag .de false := by simp [divide, h]

theorem divide_of_zero (r3 : Reg) (q : BitVec 32) : s.divide r3 0#16 q =
    (((s.setY (Config.freeWord s.draws)).setReg r3 (Config.freeWord (s.draws + 1))).addDraws
      2).divError := rfl

theorem remainder_of_ne (r3 : Reg) (b m : Word) (h : b ≠ 0#16) :
    s.remainder r3 b m = (s.setReg r3 m).setFlag .de false := by simp [remainder, h]

theorem remainder_of_zero (r3 : Reg) (m : Word) : s.remainder r3 0#16 m =
    ((s.setReg r3 (Config.freeWord s.draws)).addDraws 1).divError := rfl

/-! ## Pops, without the pair -/

theorem execPop_eq (r3 : Reg) : execPop r3 s = .next (s.pop16.2.setReg r3 s.pop16.1) := rfl

theorem execRet_eq : execRet s = .next (s.pop16.2.setPc s.pop16.1) := rfl

theorem execLret_eq : execLret s = .next ((s.pop16.2.setPc s.pop16.1).pop16.2.setCs
    (s.pop16.2.setPc s.pop16.1).pop16.1) := rfl

/-! ## Memory and the parameters -/

theorem wf_finishArith (r3 : Reg) (r : ArithResult) (hw : s.mem.wf = true) :
    (s.finishArith r3 r).mem.wf = true := by
  rcases s.finishArith_cases r3 r with e | e <;> rw [e]
  · exact hw
  · exact wf_enter _ _ hw

theorem wf_divError (hw : s.mem.wf = true) : s.divError.mem.wf = true := by
  rcases s.divError_cases with e | e <;> rw [e]
  · exact hw
  · exact wf_enter _ _ hw

theorem wf_divide (r3 : Reg) (b : Word) (q : BitVec 32) (hw : s.mem.wf = true) :
    (s.divide r3 b q).mem.wf = true := by
  unfold divide; split
  · exact wf_divError _ hw
  · exact hw

theorem wf_remainder (r3 : Reg) (b m : Word) (hw : s.mem.wf = true) :
    (s.remainder r3 b m).mem.wf = true := by
  unfold remainder; split
  · exact wf_divError _ hw
  · exact hw

theorem read_finishArith_not_ram (r3 : Reg) (r : ArithResult) (a : Nat) (h : s.kind a ≠ .ram) :
    (s.finishArith r3 r).mem.read a = s.mem.read a := by
  rcases s.finishArith_cases r3 r with e | e <;> rw [e]
  · rfl
  · exact read_enter_not_ram _ _ a h

theorem read_divError_not_ram (a : Nat) (h : s.kind a ≠ .ram) :
    s.divError.mem.read a = s.mem.read a := by
  rcases s.divError_cases with e | e <;> rw [e]
  · rfl
  · exact read_enter_not_ram _ _ a h

theorem read_divide_not_ram (r3 : Reg) (b : Word) (q : BitVec 32) (a : Nat) (h : s.kind a ≠ .ram) :
    (s.divide r3 b q).mem.read a = s.mem.read a := by
  unfold divide; split
  · exact read_divError_not_ram _ a h
  · rfl

theorem read_remainder_not_ram (r3 : Reg) (b m : Word) (a : Nat) (h : s.kind a ≠ .ram) :
    (s.remainder r3 b m).mem.read a = s.mem.read a := by
  unfold remainder; split
  · exact read_divError_not_ram _ a h
  · rfl

/-! ### arithWritten -/

@[simp] theorem ia_arithWritten (r3 : Reg) (r : ArithResult) : (s.arithWritten r3 r).ia = s.ia := by
  rfl
@[simp] theorem ds_arithWritten (r3 : Reg) (r : ArithResult) : (s.arithWritten r3 r).ds = s.ds := by
  rfl
@[simp] theorem ss_arithWritten (r3 : Reg) (r : ArithResult) : (s.arithWritten r3 r).ss = s.ss := by
  rfl
@[simp] theorem is_arithWritten (r3 : Reg) (r : ArithResult) : (s.arithWritten r3 r).is = s.is := by
  rfl
@[simp] theorem cfg_arithWritten (r3 : Reg) (r : ArithResult) : (s.arithWritten r3 r).cfg = s.cfg := by
  rfl
@[simp] theorem skipping_arithWritten (r3 : Reg) (r : ArithResult) : (s.arithWritten r3 r).skipping = s.skipping := by
  rfl
@[simp] theorem mem_arithWritten (r3 : Reg) (r : ArithResult) : (s.arithWritten r3 r).mem = s.mem := by
  rfl
@[simp] theorem y_arithWritten (r3 : Reg) (r : ArithResult) : (s.arithWritten r3 r).y = s.y := by
  rfl
@[simp] theorem pc_arithWritten (r3 : Reg) (r : ArithResult) : (s.arithWritten r3 r).pc = s.pc := by
  rfl
@[simp] theorem cs_arithWritten (r3 : Reg) (r : ArithResult) : (s.arithWritten r3 r).cs = s.cs := by
  rfl

/-! ### finishArith -/

@[simp] theorem ia_finishArith (r3 : Reg) (r : ArithResult) : (s.finishArith r3 r).ia = s.ia := by
  rcases s.finishArith_cases r3 r with e | e <;> rw [e] <;> simp
@[simp] theorem ds_finishArith (r3 : Reg) (r : ArithResult) : (s.finishArith r3 r).ds = s.ds := by
  rcases s.finishArith_cases r3 r with e | e <;> rw [e] <;> simp
@[simp] theorem ss_finishArith (r3 : Reg) (r : ArithResult) : (s.finishArith r3 r).ss = s.ss := by
  rcases s.finishArith_cases r3 r with e | e <;> rw [e] <;> simp
@[simp] theorem is_finishArith (r3 : Reg) (r : ArithResult) : (s.finishArith r3 r).is = s.is := by
  rcases s.finishArith_cases r3 r with e | e <;> rw [e] <;> simp
@[simp] theorem cfg_finishArith (r3 : Reg) (r : ArithResult) : (s.finishArith r3 r).cfg = s.cfg := by
  rcases s.finishArith_cases r3 r with e | e <;> rw [e] <;> simp
@[simp] theorem skipping_finishArith (r3 : Reg) (r : ArithResult) : (s.finishArith r3 r).skipping = s.skipping := by
  rcases s.finishArith_cases r3 r with e | e <;> rw [e] <;> simp
@[simp] theorem y_finishArith (r3 : Reg) (r : ArithResult) : (s.finishArith r3 r).y = s.y := by
  rcases s.finishArith_cases r3 r with e | e <;> rw [e] <;> simp

/-! ### divError -/

@[simp] theorem ia_divError : s.divError.ia = s.ia := by
  rcases s.divError_cases with e | e <;> rw [e] <;> simp
@[simp] theorem ds_divError : s.divError.ds = s.ds := by
  rcases s.divError_cases with e | e <;> rw [e] <;> simp
@[simp] theorem ss_divError : s.divError.ss = s.ss := by
  rcases s.divError_cases with e | e <;> rw [e] <;> simp
@[simp] theorem is_divError : s.divError.is = s.is := by
  rcases s.divError_cases with e | e <;> rw [e] <;> simp
@[simp] theorem cfg_divError : s.divError.cfg = s.cfg := by
  rcases s.divError_cases with e | e <;> rw [e] <;> simp
@[simp] theorem skipping_divError : s.divError.skipping = s.skipping := by
  rcases s.divError_cases with e | e <;> rw [e] <;> simp
@[simp] theorem y_divError : s.divError.y = s.y := by
  rcases s.divError_cases with e | e <;> rw [e] <;> simp

/-! ### setYReg -/

@[simp] theorem ia_setYReg (r3 : Reg) (p : BitVec 32) : (s.setYReg r3 p).ia = s.ia := by
  rfl
@[simp] theorem ds_setYReg (r3 : Reg) (p : BitVec 32) : (s.setYReg r3 p).ds = s.ds := by
  rfl
@[simp] theorem ss_setYReg (r3 : Reg) (p : BitVec 32) : (s.setYReg r3 p).ss = s.ss := by
  rfl
@[simp] theorem is_setYReg (r3 : Reg) (p : BitVec 32) : (s.setYReg r3 p).is = s.is := by
  rfl
@[simp] theorem cfg_setYReg (r3 : Reg) (p : BitVec 32) : (s.setYReg r3 p).cfg = s.cfg := by
  rfl
@[simp] theorem skipping_setYReg (r3 : Reg) (p : BitVec 32) : (s.setYReg r3 p).skipping = s.skipping := by
  rfl
@[simp] theorem mem_setYReg (r3 : Reg) (p : BitVec 32) : (s.setYReg r3 p).mem = s.mem := by
  rfl
@[simp] theorem asleep_setYReg (r3 : Reg) (p : BitVec 32) : (s.setYReg r3 p).asleep = s.asleep := by
  rfl
@[simp] theorem iack_setYReg (r3 : Reg) (p : BitVec 32) : (s.setYReg r3 p).iack = s.iack := by
  rfl
@[simp] theorem hwInt_setYReg (r3 : Reg) (p : BitVec 32) : (s.setYReg r3 p).hwInt = s.hwInt := by
  rfl
@[simp] theorem flags_setYReg (r3 : Reg) (p : BitVec 32) : (s.setYReg r3 p).flags = s.flags := by
  rfl
@[simp] theorem pc_setYReg (r3 : Reg) (p : BitVec 32) : (s.setYReg r3 p).pc = s.pc := by
  rfl
@[simp] theorem cs_setYReg (r3 : Reg) (p : BitVec 32) : (s.setYReg r3 p).cs = s.cs := by
  rfl

/-! ### divide -/

@[simp] theorem ia_divide (r3 : Reg) (b : Word) (q : BitVec 32) : (s.divide r3 b q).ia = s.ia := by
  unfold divide; split <;> simp
@[simp] theorem ds_divide (r3 : Reg) (b : Word) (q : BitVec 32) : (s.divide r3 b q).ds = s.ds := by
  unfold divide; split <;> simp
@[simp] theorem ss_divide (r3 : Reg) (b : Word) (q : BitVec 32) : (s.divide r3 b q).ss = s.ss := by
  unfold divide; split <;> simp
@[simp] theorem is_divide (r3 : Reg) (b : Word) (q : BitVec 32) : (s.divide r3 b q).is = s.is := by
  unfold divide; split <;> simp
@[simp] theorem cfg_divide (r3 : Reg) (b : Word) (q : BitVec 32) : (s.divide r3 b q).cfg = s.cfg := by
  unfold divide; split <;> simp
@[simp] theorem skipping_divide (r3 : Reg) (b : Word) (q : BitVec 32) : (s.divide r3 b q).skipping = s.skipping := by
  unfold divide; split <;> simp

/-! ### remainder -/

@[simp] theorem ia_remainder (r3 : Reg) (b m : Word) : (s.remainder r3 b m).ia = s.ia := by
  unfold remainder; split <;> simp
@[simp] theorem ds_remainder (r3 : Reg) (b m : Word) : (s.remainder r3 b m).ds = s.ds := by
  unfold remainder; split <;> simp
@[simp] theorem ss_remainder (r3 : Reg) (b m : Word) : (s.remainder r3 b m).ss = s.ss := by
  unfold remainder; split <;> simp
@[simp] theorem is_remainder (r3 : Reg) (b m : Word) : (s.remainder r3 b m).is = s.is := by
  unfold remainder; split <;> simp
@[simp] theorem cfg_remainder (r3 : Reg) (b m : Word) : (s.remainder r3 b m).cfg = s.cfg := by
  unfold remainder; split <;> simp
@[simp] theorem skipping_remainder (r3 : Reg) (b m : Word) : (s.remainder r3 b m).skipping = s.skipping := by
  unfold remainder; split <;> simp
@[simp] theorem y_remainder (r3 : Reg) (b m : Word) : (s.remainder r3 b m).y = s.y := by
  unfold remainder; split <;> simp

/-! ### finishShift -/

@[simp] theorem ia_finishShift (r3 : Reg) (v : Word) (c : Bool) : (s.finishShift r3 v c).ia = s.ia := by
  rfl
@[simp] theorem ds_finishShift (r3 : Reg) (v : Word) (c : Bool) : (s.finishShift r3 v c).ds = s.ds := by
  rfl
@[simp] theorem ss_finishShift (r3 : Reg) (v : Word) (c : Bool) : (s.finishShift r3 v c).ss = s.ss := by
  rfl
@[simp] theorem is_finishShift (r3 : Reg) (v : Word) (c : Bool) : (s.finishShift r3 v c).is = s.is := by
  rfl
@[simp] theorem cfg_finishShift (r3 : Reg) (v : Word) (c : Bool) : (s.finishShift r3 v c).cfg = s.cfg := by
  rfl
@[simp] theorem skipping_finishShift (r3 : Reg) (v : Word) (c : Bool) : (s.finishShift r3 v c).skipping = s.skipping := by
  rfl
@[simp] theorem mem_finishShift (r3 : Reg) (v : Word) (c : Bool) : (s.finishShift r3 v c).mem = s.mem := by
  rfl
@[simp] theorem y_finishShift (r3 : Reg) (v : Word) (c : Bool) : (s.finishShift r3 v c).y = s.y := by
  rfl
@[simp] theorem asleep_finishShift (r3 : Reg) (v : Word) (c : Bool) : (s.finishShift r3 v c).asleep = s.asleep := by
  rfl
@[simp] theorem iack_finishShift (r3 : Reg) (v : Word) (c : Bool) : (s.finishShift r3 v c).iack = s.iack := by
  rfl
@[simp] theorem hwInt_finishShift (r3 : Reg) (v : Word) (c : Bool) : (s.finishShift r3 v c).hwInt = s.hwInt := by
  rfl
@[simp] theorem pc_finishShift (r3 : Reg) (v : Word) (c : Bool) : (s.finishShift r3 v c).pc = s.pc := by
  rfl
@[simp] theorem cs_finishShift (r3 : Reg) (v : Word) (c : Bool) : (s.finishShift r3 v c).cs = s.cs := by
  rfl

/-! ### sll -/

@[simp] theorem ia_sll (r3 : Reg) (b : Word) : (s.sll r3 b).ia = s.ia := by
  simp [sll]
@[simp] theorem ds_sll (r3 : Reg) (b : Word) : (s.sll r3 b).ds = s.ds := by
  simp [sll]
@[simp] theorem ss_sll (r3 : Reg) (b : Word) : (s.sll r3 b).ss = s.ss := by
  simp [sll]
@[simp] theorem is_sll (r3 : Reg) (b : Word) : (s.sll r3 b).is = s.is := by
  simp [sll]
@[simp] theorem cfg_sll (r3 : Reg) (b : Word) : (s.sll r3 b).cfg = s.cfg := by
  simp [sll]
@[simp] theorem skipping_sll (r3 : Reg) (b : Word) : (s.sll r3 b).skipping = s.skipping := by
  simp [sll]
@[simp] theorem mem_sll (r3 : Reg) (b : Word) : (s.sll r3 b).mem = s.mem := by
  simp [sll]
@[simp] theorem y_sll (r3 : Reg) (b : Word) : (s.sll r3 b).y = s.y := by
  simp [sll]
@[simp] theorem asleep_sll (r3 : Reg) (b : Word) : (s.sll r3 b).asleep = s.asleep := by
  simp [sll]
@[simp] theorem iack_sll (r3 : Reg) (b : Word) : (s.sll r3 b).iack = s.iack := by
  simp [sll]
@[simp] theorem hwInt_sll (r3 : Reg) (b : Word) : (s.sll r3 b).hwInt = s.hwInt := by
  simp [sll]
@[simp] theorem pc_sll (r3 : Reg) (b : Word) : (s.sll r3 b).pc = s.pc := by
  simp [sll]
@[simp] theorem cs_sll (r3 : Reg) (b : Word) : (s.sll r3 b).cs = s.cs := by
  simp [sll]

/-! ### srl -/

@[simp] theorem ia_srl (r3 : Reg) (b : Word) : (s.srl r3 b).ia = s.ia := by
  simp [srl]
@[simp] theorem ds_srl (r3 : Reg) (b : Word) : (s.srl r3 b).ds = s.ds := by
  simp [srl]
@[simp] theorem ss_srl (r3 : Reg) (b : Word) : (s.srl r3 b).ss = s.ss := by
  simp [srl]
@[simp] theorem is_srl (r3 : Reg) (b : Word) : (s.srl r3 b).is = s.is := by
  simp [srl]
@[simp] theorem cfg_srl (r3 : Reg) (b : Word) : (s.srl r3 b).cfg = s.cfg := by
  simp [srl]
@[simp] theorem skipping_srl (r3 : Reg) (b : Word) : (s.srl r3 b).skipping = s.skipping := by
  simp [srl]
@[simp] theorem mem_srl (r3 : Reg) (b : Word) : (s.srl r3 b).mem = s.mem := by
  simp [srl]
@[simp] theorem y_srl (r3 : Reg) (b : Word) : (s.srl r3 b).y = s.y := by
  simp [srl]
@[simp] theorem asleep_srl (r3 : Reg) (b : Word) : (s.srl r3 b).asleep = s.asleep := by
  simp [srl]
@[simp] theorem iack_srl (r3 : Reg) (b : Word) : (s.srl r3 b).iack = s.iack := by
  simp [srl]
@[simp] theorem hwInt_srl (r3 : Reg) (b : Word) : (s.srl r3 b).hwInt = s.hwInt := by
  simp [srl]
@[simp] theorem pc_srl (r3 : Reg) (b : Word) : (s.srl r3 b).pc = s.pc := by
  simp [srl]
@[simp] theorem cs_srl (r3 : Reg) (b : Word) : (s.srl r3 b).cs = s.cs := by
  simp [srl]

/-! ### sra -/

@[simp] theorem ia_sra (r3 : Reg) (b : Word) : (s.sra r3 b).ia = s.ia := by
  simp [sra]
@[simp] theorem ds_sra (r3 : Reg) (b : Word) : (s.sra r3 b).ds = s.ds := by
  simp [sra]
@[simp] theorem ss_sra (r3 : Reg) (b : Word) : (s.sra r3 b).ss = s.ss := by
  simp [sra]
@[simp] theorem is_sra (r3 : Reg) (b : Word) : (s.sra r3 b).is = s.is := by
  simp [sra]
@[simp] theorem cfg_sra (r3 : Reg) (b : Word) : (s.sra r3 b).cfg = s.cfg := by
  simp [sra]
@[simp] theorem skipping_sra (r3 : Reg) (b : Word) : (s.sra r3 b).skipping = s.skipping := by
  simp [sra]
@[simp] theorem mem_sra (r3 : Reg) (b : Word) : (s.sra r3 b).mem = s.mem := by
  simp [sra]
@[simp] theorem y_sra (r3 : Reg) (b : Word) : (s.sra r3 b).y = s.y := by
  simp [sra]
@[simp] theorem asleep_sra (r3 : Reg) (b : Word) : (s.sra r3 b).asleep = s.asleep := by
  simp [sra]
@[simp] theorem iack_sra (r3 : Reg) (b : Word) : (s.sra r3 b).iack = s.iack := by
  simp [sra]
@[simp] theorem hwInt_sra (r3 : Reg) (b : Word) : (s.sra r3 b).hwInt = s.hwInt := by
  simp [sra]
@[simp] theorem pc_sra (r3 : Reg) (b : Word) : (s.sra r3 b).pc = s.pc := by
  simp [sra]
@[simp] theorem cs_sra (r3 : Reg) (b : Word) : (s.sra r3 b).cs = s.cs := by
  simp [sra]

/-! ### loadWord -/

@[simp] theorem ia_loadWord (r1 : Reg) (b : Word) (r3 : Reg) : (s.loadWord r1 b r3).ia = s.ia := by
  simp [loadWord]
@[simp] theorem ds_loadWord (r1 : Reg) (b : Word) (r3 : Reg) : (s.loadWord r1 b r3).ds = s.ds := by
  simp [loadWord]
@[simp] theorem ss_loadWord (r1 : Reg) (b : Word) (r3 : Reg) : (s.loadWord r1 b r3).ss = s.ss := by
  simp [loadWord]
@[simp] theorem is_loadWord (r1 : Reg) (b : Word) (r3 : Reg) : (s.loadWord r1 b r3).is = s.is := by
  simp [loadWord]
@[simp] theorem cfg_loadWord (r1 : Reg) (b : Word) (r3 : Reg) : (s.loadWord r1 b r3).cfg = s.cfg := by
  simp [loadWord]
@[simp] theorem skipping_loadWord (r1 : Reg) (b : Word) (r3 : Reg) : (s.loadWord r1 b r3).skipping = s.skipping := by
  simp [loadWord]
@[simp] theorem mem_loadWord (r1 : Reg) (b : Word) (r3 : Reg) : (s.loadWord r1 b r3).mem = s.mem := by
  simp [loadWord]
@[simp] theorem y_loadWord (r1 : Reg) (b : Word) (r3 : Reg) : (s.loadWord r1 b r3).y = s.y := by
  simp [loadWord]
@[simp] theorem asleep_loadWord (r1 : Reg) (b : Word) (r3 : Reg) : (s.loadWord r1 b r3).asleep = s.asleep := by
  simp [loadWord]
@[simp] theorem iack_loadWord (r1 : Reg) (b : Word) (r3 : Reg) : (s.loadWord r1 b r3).iack = s.iack := by
  simp [loadWord]
@[simp] theorem hwInt_loadWord (r1 : Reg) (b : Word) (r3 : Reg) : (s.loadWord r1 b r3).hwInt = s.hwInt := by
  simp [loadWord]
@[simp] theorem flags_loadWord (r1 : Reg) (b : Word) (r3 : Reg) : (s.loadWord r1 b r3).flags = s.flags := by
  simp [loadWord]
@[simp] theorem pc_loadWord (r1 : Reg) (b : Word) (r3 : Reg) : (s.loadWord r1 b r3).pc = s.pc := by
  simp [loadWord]
@[simp] theorem cs_loadWord (r1 : Reg) (b : Word) (r3 : Reg) : (s.loadWord r1 b r3).cs = s.cs := by
  simp [loadWord]

/-! ### loadByte -/

@[simp] theorem ia_loadByte (r1 : Reg) (b : Word) (r3 : Reg) : (s.loadByte r1 b r3).ia = s.ia := by
  simp only [loadByte]; split <;> simp
@[simp] theorem ds_loadByte (r1 : Reg) (b : Word) (r3 : Reg) : (s.loadByte r1 b r3).ds = s.ds := by
  simp only [loadByte]; split <;> simp
@[simp] theorem ss_loadByte (r1 : Reg) (b : Word) (r3 : Reg) : (s.loadByte r1 b r3).ss = s.ss := by
  simp only [loadByte]; split <;> simp
@[simp] theorem is_loadByte (r1 : Reg) (b : Word) (r3 : Reg) : (s.loadByte r1 b r3).is = s.is := by
  simp only [loadByte]; split <;> simp
@[simp] theorem cfg_loadByte (r1 : Reg) (b : Word) (r3 : Reg) : (s.loadByte r1 b r3).cfg = s.cfg := by
  simp only [loadByte]; split <;> simp
@[simp] theorem skipping_loadByte (r1 : Reg) (b : Word) (r3 : Reg) : (s.loadByte r1 b r3).skipping = s.skipping := by
  simp only [loadByte]; split <;> simp
@[simp] theorem mem_loadByte (r1 : Reg) (b : Word) (r3 : Reg) : (s.loadByte r1 b r3).mem = s.mem := by
  simp only [loadByte]; split <;> simp
@[simp] theorem y_loadByte (r1 : Reg) (b : Word) (r3 : Reg) : (s.loadByte r1 b r3).y = s.y := by
  simp only [loadByte]; split <;> simp
@[simp] theorem asleep_loadByte (r1 : Reg) (b : Word) (r3 : Reg) : (s.loadByte r1 b r3).asleep = s.asleep := by
  simp only [loadByte]; split <;> simp
@[simp] theorem iack_loadByte (r1 : Reg) (b : Word) (r3 : Reg) : (s.loadByte r1 b r3).iack = s.iack := by
  simp only [loadByte]; split <;> simp
@[simp] theorem hwInt_loadByte (r1 : Reg) (b : Word) (r3 : Reg) : (s.loadByte r1 b r3).hwInt = s.hwInt := by
  simp only [loadByte]; split <;> simp
@[simp] theorem flags_loadByte (r1 : Reg) (b : Word) (r3 : Reg) : (s.loadByte r1 b r3).flags = s.flags := by
  simp only [loadByte]; split <;> simp
@[simp] theorem pc_loadByte (r1 : Reg) (b : Word) (r3 : Reg) : (s.loadByte r1 b r3).pc = s.pc := by
  simp only [loadByte]; split <;> simp
@[simp] theorem cs_loadByte (r1 : Reg) (b : Word) (r3 : Reg) : (s.loadByte r1 b r3).cs = s.cs := by
  simp only [loadByte]; split <;> simp

/-! ### storeWord -/

@[simp] theorem ia_storeWord (r1 : Reg) (b : Word) (r3 : Reg) : (s.storeWord r1 b r3).ia = s.ia := by
  simp [storeWord]
@[simp] theorem ds_storeWord (r1 : Reg) (b : Word) (r3 : Reg) : (s.storeWord r1 b r3).ds = s.ds := by
  simp [storeWord]
@[simp] theorem ss_storeWord (r1 : Reg) (b : Word) (r3 : Reg) : (s.storeWord r1 b r3).ss = s.ss := by
  simp [storeWord]
@[simp] theorem is_storeWord (r1 : Reg) (b : Word) (r3 : Reg) : (s.storeWord r1 b r3).is = s.is := by
  simp [storeWord]
@[simp] theorem cfg_storeWord (r1 : Reg) (b : Word) (r3 : Reg) : (s.storeWord r1 b r3).cfg = s.cfg := by
  simp [storeWord]
@[simp] theorem skipping_storeWord (r1 : Reg) (b : Word) (r3 : Reg) : (s.storeWord r1 b r3).skipping = s.skipping := by
  simp [storeWord]
@[simp] theorem y_storeWord (r1 : Reg) (b : Word) (r3 : Reg) : (s.storeWord r1 b r3).y = s.y := by
  simp [storeWord]
@[simp] theorem asleep_storeWord (r1 : Reg) (b : Word) (r3 : Reg) : (s.storeWord r1 b r3).asleep = s.asleep := by
  simp [storeWord]
@[simp] theorem iack_storeWord (r1 : Reg) (b : Word) (r3 : Reg) : (s.storeWord r1 b r3).iack = s.iack := by
  simp [storeWord]
@[simp] theorem hwInt_storeWord (r1 : Reg) (b : Word) (r3 : Reg) : (s.storeWord r1 b r3).hwInt = s.hwInt := by
  simp [storeWord]
@[simp] theorem flags_storeWord (r1 : Reg) (b : Word) (r3 : Reg) : (s.storeWord r1 b r3).flags = s.flags := by
  simp [storeWord]
@[simp] theorem pc_storeWord (r1 : Reg) (b : Word) (r3 : Reg) : (s.storeWord r1 b r3).pc = s.pc := by
  simp [storeWord]
@[simp] theorem cs_storeWord (r1 : Reg) (b : Word) (r3 : Reg) : (s.storeWord r1 b r3).cs = s.cs := by
  simp [storeWord]

/-! ### storeByte -/

@[simp] theorem ia_storeByte (r1 : Reg) (b : Word) (r3 : Reg) : (s.storeByte r1 b r3).ia = s.ia := by
  simp [storeByte]
@[simp] theorem ds_storeByte (r1 : Reg) (b : Word) (r3 : Reg) : (s.storeByte r1 b r3).ds = s.ds := by
  simp [storeByte]
@[simp] theorem ss_storeByte (r1 : Reg) (b : Word) (r3 : Reg) : (s.storeByte r1 b r3).ss = s.ss := by
  simp [storeByte]
@[simp] theorem is_storeByte (r1 : Reg) (b : Word) (r3 : Reg) : (s.storeByte r1 b r3).is = s.is := by
  simp [storeByte]
@[simp] theorem cfg_storeByte (r1 : Reg) (b : Word) (r3 : Reg) : (s.storeByte r1 b r3).cfg = s.cfg := by
  simp [storeByte]
@[simp] theorem skipping_storeByte (r1 : Reg) (b : Word) (r3 : Reg) : (s.storeByte r1 b r3).skipping = s.skipping := by
  simp [storeByte]
@[simp] theorem y_storeByte (r1 : Reg) (b : Word) (r3 : Reg) : (s.storeByte r1 b r3).y = s.y := by
  simp [storeByte]
@[simp] theorem asleep_storeByte (r1 : Reg) (b : Word) (r3 : Reg) : (s.storeByte r1 b r3).asleep = s.asleep := by
  simp [storeByte]
@[simp] theorem iack_storeByte (r1 : Reg) (b : Word) (r3 : Reg) : (s.storeByte r1 b r3).iack = s.iack := by
  simp [storeByte]
@[simp] theorem hwInt_storeByte (r1 : Reg) (b : Word) (r3 : Reg) : (s.storeByte r1 b r3).hwInt = s.hwInt := by
  simp [storeByte]
@[simp] theorem flags_storeByte (r1 : Reg) (b : Word) (r3 : Reg) : (s.storeByte r1 b r3).flags = s.flags := by
  simp [storeByte]
@[simp] theorem pc_storeByte (r1 : Reg) (b : Word) (r3 : Reg) : (s.storeByte r1 b r3).pc = s.pc := by
  simp [storeByte]
@[simp] theorem cs_storeByte (r1 : Reg) (b : Word) (r3 : Reg) : (s.storeByte r1 b r3).cs = s.cs := by
  simp [storeByte]

/-! ### inp -/

@[simp] theorem ia_inp (r3 : Reg) (b : Word) : (s.inp r3 b).ia = s.ia := by
  simp [inp]
@[simp] theorem ds_inp (r3 : Reg) (b : Word) : (s.inp r3 b).ds = s.ds := by
  simp [inp]
@[simp] theorem ss_inp (r3 : Reg) (b : Word) : (s.inp r3 b).ss = s.ss := by
  simp [inp]
@[simp] theorem is_inp (r3 : Reg) (b : Word) : (s.inp r3 b).is = s.is := by
  simp [inp]
@[simp] theorem cfg_inp (r3 : Reg) (b : Word) : (s.inp r3 b).cfg = s.cfg := by
  simp [inp]
@[simp] theorem skipping_inp (r3 : Reg) (b : Word) : (s.inp r3 b).skipping = s.skipping := by
  simp [inp]
@[simp] theorem mem_inp (r3 : Reg) (b : Word) : (s.inp r3 b).mem = s.mem := by
  simp [inp]
@[simp] theorem y_inp (r3 : Reg) (b : Word) : (s.inp r3 b).y = s.y := by
  simp [inp]
@[simp] theorem asleep_inp (r3 : Reg) (b : Word) : (s.inp r3 b).asleep = s.asleep := by
  simp [inp]
@[simp] theorem iack_inp (r3 : Reg) (b : Word) : (s.inp r3 b).iack = s.iack := by
  simp [inp]
@[simp] theorem hwInt_inp (r3 : Reg) (b : Word) : (s.inp r3 b).hwInt = s.hwInt := by
  simp [inp]
@[simp] theorem flags_inp (r3 : Reg) (b : Word) : (s.inp r3 b).flags = s.flags := by
  simp [inp]
@[simp] theorem pc_inp (r3 : Reg) (b : Word) : (s.inp r3 b).pc = s.pc := by
  simp [inp]
@[simp] theorem cs_inp (r3 : Reg) (b : Word) : (s.inp r3 b).cs = s.cs := by
  simp [inp]

/-! ### jumpRel -/

@[simp] theorem ia_jumpRel (off : BitVec 9) : (s.jumpRel off).ia = s.ia := by
  simp only [jumpRel]; split <;> (try split) <;> rfl
@[simp] theorem ds_jumpRel (off : BitVec 9) : (s.jumpRel off).ds = s.ds := by
  simp only [jumpRel]; split <;> (try split) <;> rfl
@[simp] theorem ss_jumpRel (off : BitVec 9) : (s.jumpRel off).ss = s.ss := by
  simp only [jumpRel]; split <;> (try split) <;> rfl
@[simp] theorem is_jumpRel (off : BitVec 9) : (s.jumpRel off).is = s.is := by
  simp only [jumpRel]; split <;> (try split) <;> rfl
@[simp] theorem cfg_jumpRel (off : BitVec 9) : (s.jumpRel off).cfg = s.cfg := by
  simp only [jumpRel]; split <;> (try split) <;> rfl
@[simp] theorem skipping_jumpRel (off : BitVec 9) : (s.jumpRel off).skipping = s.skipping := by
  simp only [jumpRel]; split <;> (try split) <;> rfl
@[simp] theorem mem_jumpRel (off : BitVec 9) : (s.jumpRel off).mem = s.mem := by
  simp only [jumpRel]; split <;> (try split) <;> rfl
@[simp] theorem y_jumpRel (off : BitVec 9) : (s.jumpRel off).y = s.y := by
  simp only [jumpRel]; split <;> (try split) <;> rfl
@[simp] theorem asleep_jumpRel (off : BitVec 9) : (s.jumpRel off).asleep = s.asleep := by
  simp only [jumpRel]; split <;> (try split) <;> rfl
@[simp] theorem iack_jumpRel (off : BitVec 9) : (s.jumpRel off).iack = s.iack := by
  simp only [jumpRel]; split <;> (try split) <;> rfl
@[simp] theorem hwInt_jumpRel (off : BitVec 9) : (s.jumpRel off).hwInt = s.hwInt := by
  simp only [jumpRel]; split <;> (try split) <;> rfl
@[simp] theorem flags_jumpRel (off : BitVec 9) : (s.jumpRel off).flags = s.flags := by
  simp only [jumpRel]; split <;> (try split) <;> rfl

end Sys2Proof.Machine.State
end

