-- ==== Sys2Proof/Laws/PerInstr.lean ====
section
/-! SUPPORT. Facts about instructions as syntax that hold of every instruction, one lemma for each
constructor: the length of its encoding is the length that the decoder counts (30_encoding.md R70,
R81). -/

/-- The encoding has as many words as the instruction is long, and twice as many bytes. -/
def Sys2Proof.Laws.Length.Statement (i : Sys2Proof.Instr) : Prop :=
  (Sys2Proof.encode i).length = i.words ∧ (Sys2Proof.encodeBytes i).length = 2 * i.words

theorem Sys2Proof.Laws.Length.loadLit (r1 : Sys2Proof.Reg) (l : Sys2Proof.Lit) (r3 : Sys2Proof.Reg) : Sys2Proof.Laws.Length.Statement (.loadLit r1 l r3) :=
  by cases l <;> exact ⟨rfl, rfl⟩
theorem Sys2Proof.Laws.Length.loadReg (r1 : Sys2Proof.Reg) (r2 : Sys2Proof.Reg) (r3 : Sys2Proof.Reg) : Sys2Proof.Laws.Length.Statement (.loadReg r1 r2 r3) :=
  ⟨rfl, rfl⟩
theorem Sys2Proof.Laws.Length.loadBLit (r1 : Sys2Proof.Reg) (l : Sys2Proof.Lit) (r3 : Sys2Proof.Reg) : Sys2Proof.Laws.Length.Statement (.loadBLit r1 l r3) :=
  by cases l <;> exact ⟨rfl, rfl⟩
theorem Sys2Proof.Laws.Length.loadBReg (r1 : Sys2Proof.Reg) (r2 : Sys2Proof.Reg) (r3 : Sys2Proof.Reg) : Sys2Proof.Laws.Length.Statement (.loadBReg r1 r2 r3) :=
  ⟨rfl, rfl⟩
theorem Sys2Proof.Laws.Length.storeLit (r1 : Sys2Proof.Reg) (l : Sys2Proof.Lit) (r3 : Sys2Proof.Reg) : Sys2Proof.Laws.Length.Statement (.storeLit r1 l r3) :=
  by cases l <;> exact ⟨rfl, rfl⟩
theorem Sys2Proof.Laws.Length.storeReg (r1 : Sys2Proof.Reg) (r2 : Sys2Proof.Reg) (r3 : Sys2Proof.Reg) : Sys2Proof.Laws.Length.Statement (.storeReg r1 r2 r3) :=
  ⟨rfl, rfl⟩
theorem Sys2Proof.Laws.Length.storeBLit (r1 : Sys2Proof.Reg) (l : Sys2Proof.Lit) (r3 : Sys2Proof.Reg) : Sys2Proof.Laws.Length.Statement (.storeBLit r1 l r3) :=
  by cases l <;> exact ⟨rfl, rfl⟩
theorem Sys2Proof.Laws.Length.storeBReg (r1 : Sys2Proof.Reg) (r2 : Sys2Proof.Reg) (r3 : Sys2Proof.Reg) : Sys2Proof.Laws.Length.Statement (.storeBReg r1 r2 r3) :=
  ⟨rfl, rfl⟩
theorem Sys2Proof.Laws.Length.addReg (r2 : Sys2Proof.Reg) (r3 : Sys2Proof.Reg) : Sys2Proof.Laws.Length.Statement (.addReg r2 r3) :=
  ⟨rfl, rfl⟩
theorem Sys2Proof.Laws.Length.addLit (l : Sys2Proof.Lit) (r3 : Sys2Proof.Reg) : Sys2Proof.Laws.Length.Statement (.addLit l r3) :=
  by cases l <;> exact ⟨rfl, rfl⟩
theorem Sys2Proof.Laws.Length.subReg (r2 : Sys2Proof.Reg) (r3 : Sys2Proof.Reg) : Sys2Proof.Laws.Length.Statement (.subReg r2 r3) :=
  ⟨rfl, rfl⟩
theorem Sys2Proof.Laws.Length.subLit (l : Sys2Proof.Lit) (r3 : Sys2Proof.Reg) : Sys2Proof.Laws.Length.Statement (.subLit l r3) :=
  by cases l <;> exact ⟨rfl, rfl⟩
theorem Sys2Proof.Laws.Length.addc (r2 : Sys2Proof.Reg) (r3 : Sys2Proof.Reg) : Sys2Proof.Laws.Length.Statement (.addc r2 r3) :=
  ⟨rfl, rfl⟩
theorem Sys2Proof.Laws.Length.subbReg (r2 : Sys2Proof.Reg) (r3 : Sys2Proof.Reg) : Sys2Proof.Laws.Length.Statement (.subbReg r2 r3) :=
  ⟨rfl, rfl⟩
theorem Sys2Proof.Laws.Length.subbLit (l : Sys2Proof.Lit) (r3 : Sys2Proof.Reg) : Sys2Proof.Laws.Length.Statement (.subbLit l r3) :=
  by cases l <;> exact ⟨rfl, rfl⟩
theorem Sys2Proof.Laws.Length.and (r2 : Sys2Proof.Reg) (r3 : Sys2Proof.Reg) : Sys2Proof.Laws.Length.Statement (.and r2 r3) :=
  ⟨rfl, rfl⟩
theorem Sys2Proof.Laws.Length.or (r2 : Sys2Proof.Reg) (r3 : Sys2Proof.Reg) : Sys2Proof.Laws.Length.Statement (.or r2 r3) :=
  ⟨rfl, rfl⟩
theorem Sys2Proof.Laws.Length.xor (r2 : Sys2Proof.Reg) (r3 : Sys2Proof.Reg) : Sys2Proof.Laws.Length.Statement (.xor r2 r3) :=
  ⟨rfl, rfl⟩
theorem Sys2Proof.Laws.Length.sllReg (r2 : Sys2Proof.Reg) (r3 : Sys2Proof.Reg) : Sys2Proof.Laws.Length.Statement (.sllReg r2 r3) :=
  ⟨rfl, rfl⟩
theorem Sys2Proof.Laws.Length.sllLit (l : Sys2Proof.Lit) (r3 : Sys2Proof.Reg) : Sys2Proof.Laws.Length.Statement (.sllLit l r3) :=
  by cases l <;> exact ⟨rfl, rfl⟩
theorem Sys2Proof.Laws.Length.srlReg (r2 : Sys2Proof.Reg) (r3 : Sys2Proof.Reg) : Sys2Proof.Laws.Length.Statement (.srlReg r2 r3) :=
  ⟨rfl, rfl⟩
theorem Sys2Proof.Laws.Length.srlLit (l : Sys2Proof.Lit) (r3 : Sys2Proof.Reg) : Sys2Proof.Laws.Length.Statement (.srlLit l r3) :=
  by cases l <;> exact ⟨rfl, rfl⟩
theorem Sys2Proof.Laws.Length.sraReg (r2 : Sys2Proof.Reg) (r3 : Sys2Proof.Reg) : Sys2Proof.Laws.Length.Statement (.sraReg r2 r3) :=
  ⟨rfl, rfl⟩
theorem Sys2Proof.Laws.Length.sraLit (l : Sys2Proof.Lit) (r3 : Sys2Proof.Reg) : Sys2Proof.Laws.Length.Statement (.sraLit l r3) :=
  by cases l <;> exact ⟨rfl, rfl⟩
theorem Sys2Proof.Laws.Length.rotlReg (r2 : Sys2Proof.Reg) (r3 : Sys2Proof.Reg) : Sys2Proof.Laws.Length.Statement (.rotlReg r2 r3) :=
  ⟨rfl, rfl⟩
theorem Sys2Proof.Laws.Length.rotlLit (l : Sys2Proof.Lit) (r3 : Sys2Proof.Reg) : Sys2Proof.Laws.Length.Statement (.rotlLit l r3) :=
  by cases l <;> exact ⟨rfl, rfl⟩
theorem Sys2Proof.Laws.Length.rotrReg (r2 : Sys2Proof.Reg) (r3 : Sys2Proof.Reg) : Sys2Proof.Laws.Length.Statement (.rotrReg r2 r3) :=
  ⟨rfl, rfl⟩
theorem Sys2Proof.Laws.Length.rotrLit (l : Sys2Proof.Lit) (r3 : Sys2Proof.Reg) : Sys2Proof.Laws.Length.Statement (.rotrLit l r3) :=
  by cases l <;> exact ⟨rfl, rfl⟩
theorem Sys2Proof.Laws.Length.umulReg (r2 : Sys2Proof.Reg) (r3 : Sys2Proof.Reg) : Sys2Proof.Laws.Length.Statement (.umulReg r2 r3) :=
  ⟨rfl, rfl⟩
theorem Sys2Proof.Laws.Length.umulLit (l : Sys2Proof.Lit) (r3 : Sys2Proof.Reg) : Sys2Proof.Laws.Length.Statement (.umulLit l r3) :=
  by cases l <;> exact ⟨rfl, rfl⟩
theorem Sys2Proof.Laws.Length.udivReg (r2 : Sys2Proof.Reg) (r3 : Sys2Proof.Reg) : Sys2Proof.Laws.Length.Statement (.udivReg r2 r3) :=
  ⟨rfl, rfl⟩
theorem Sys2Proof.Laws.Length.udivLit (l : Sys2Proof.Lit) (r3 : Sys2Proof.Reg) : Sys2Proof.Laws.Length.Statement (.udivLit l r3) :=
  by cases l <;> exact ⟨rfl, rfl⟩
theorem Sys2Proof.Laws.Length.umodReg (r2 : Sys2Proof.Reg) (r3 : Sys2Proof.Reg) : Sys2Proof.Laws.Length.Statement (.umodReg r2 r3) :=
  ⟨rfl, rfl⟩
theorem Sys2Proof.Laws.Length.umodLit (l : Sys2Proof.Lit) (r3 : Sys2Proof.Reg) : Sys2Proof.Laws.Length.Statement (.umodLit l r3) :=
  by cases l <;> exact ⟨rfl, rfl⟩
theorem Sys2Proof.Laws.Length.mulReg (r2 : Sys2Proof.Reg) (r3 : Sys2Proof.Reg) : Sys2Proof.Laws.Length.Statement (.mulReg r2 r3) :=
  ⟨rfl, rfl⟩
theorem Sys2Proof.Laws.Length.mulLit (l : Sys2Proof.Lit) (r3 : Sys2Proof.Reg) : Sys2Proof.Laws.Length.Statement (.mulLit l r3) :=
  by cases l <;> exact ⟨rfl, rfl⟩
theorem Sys2Proof.Laws.Length.divReg (r2 : Sys2Proof.Reg) (r3 : Sys2Proof.Reg) : Sys2Proof.Laws.Length.Statement (.divReg r2 r3) :=
  ⟨rfl, rfl⟩
theorem Sys2Proof.Laws.Length.divLit (l : Sys2Proof.Lit) (r3 : Sys2Proof.Reg) : Sys2Proof.Laws.Length.Statement (.divLit l r3) :=
  by cases l <;> exact ⟨rfl, rfl⟩
theorem Sys2Proof.Laws.Length.modReg (r2 : Sys2Proof.Reg) (r3 : Sys2Proof.Reg) : Sys2Proof.Laws.Length.Statement (.modReg r2 r3) :=
  ⟨rfl, rfl⟩
theorem Sys2Proof.Laws.Length.modLit (l : Sys2Proof.Lit) (r3 : Sys2Proof.Reg) : Sys2Proof.Laws.Length.Statement (.modLit l r3) :=
  by cases l <;> exact ⟨rfl, rfl⟩
theorem Sys2Proof.Laws.Length.swp (r2 : Sys2Proof.Reg) (r3 : Sys2Proof.Reg) : Sys2Proof.Laws.Length.Statement (.swp r2 r3) :=
  ⟨rfl, rfl⟩
theorem Sys2Proof.Laws.Length.cpy (r2 : Sys2Proof.Reg) (r3 : Sys2Proof.Reg) : Sys2Proof.Laws.Length.Statement (.cpy r2 r3) :=
  ⟨rfl, rfl⟩
theorem Sys2Proof.Laws.Length.set (l : Sys2Proof.Lit) (r3 : Sys2Proof.Reg) : Sys2Proof.Laws.Length.Statement (.set l r3) :=
  by cases l <;> exact ⟨rfl, rfl⟩
theorem Sys2Proof.Laws.Length.beqReg (r2 : Sys2Proof.Reg) (r3 : Sys2Proof.Reg) : Sys2Proof.Laws.Length.Statement (.beqReg r2 r3) :=
  ⟨rfl, rfl⟩
theorem Sys2Proof.Laws.Length.beqLit (l : Sys2Proof.Lit) (r3 : Sys2Proof.Reg) : Sys2Proof.Laws.Length.Statement (.beqLit l r3) :=
  by cases l <;> exact ⟨rfl, rfl⟩
theorem Sys2Proof.Laws.Length.bneqReg (r2 : Sys2Proof.Reg) (r3 : Sys2Proof.Reg) : Sys2Proof.Laws.Length.Statement (.bneqReg r2 r3) :=
  ⟨rfl, rfl⟩
theorem Sys2Proof.Laws.Length.bneqLit (l : Sys2Proof.Lit) (r3 : Sys2Proof.Reg) : Sys2Proof.Laws.Length.Statement (.bneqLit l r3) :=
  by cases l <;> exact ⟨rfl, rfl⟩
theorem Sys2Proof.Laws.Length.bgReg (r2 : Sys2Proof.Reg) (r3 : Sys2Proof.Reg) : Sys2Proof.Laws.Length.Statement (.bgReg r2 r3) :=
  ⟨rfl, rfl⟩
theorem Sys2Proof.Laws.Length.bgLit (l : Sys2Proof.Lit) (r3 : Sys2Proof.Reg) : Sys2Proof.Laws.Length.Statement (.bgLit l r3) :=
  by cases l <;> exact ⟨rfl, rfl⟩
theorem Sys2Proof.Laws.Length.bgeReg (r2 : Sys2Proof.Reg) (r3 : Sys2Proof.Reg) : Sys2Proof.Laws.Length.Statement (.bgeReg r2 r3) :=
  ⟨rfl, rfl⟩
theorem Sys2Proof.Laws.Length.bgeLit (l : Sys2Proof.Lit) (r3 : Sys2Proof.Reg) : Sys2Proof.Laws.Length.Statement (.bgeLit l r3) :=
  by cases l <;> exact ⟨rfl, rfl⟩
theorem Sys2Proof.Laws.Length.bugReg (r2 : Sys2Proof.Reg) (r3 : Sys2Proof.Reg) : Sys2Proof.Laws.Length.Statement (.bugReg r2 r3) :=
  ⟨rfl, rfl⟩
theorem Sys2Proof.Laws.Length.bugLit (l : Sys2Proof.Lit) (r3 : Sys2Proof.Reg) : Sys2Proof.Laws.Length.Statement (.bugLit l r3) :=
  by cases l <;> exact ⟨rfl, rfl⟩
theorem Sys2Proof.Laws.Length.bugeReg (r2 : Sys2Proof.Reg) (r3 : Sys2Proof.Reg) : Sys2Proof.Laws.Length.Statement (.bugeReg r2 r3) :=
  ⟨rfl, rfl⟩
theorem Sys2Proof.Laws.Length.bugeLit (l : Sys2Proof.Lit) (r3 : Sys2Proof.Reg) : Sys2Proof.Laws.Length.Statement (.bugeLit l r3) :=
  by cases l <;> exact ⟨rfl, rfl⟩
theorem Sys2Proof.Laws.Length.bbits (r2 : Sys2Proof.Reg) (r3 : Sys2Proof.Reg) : Sys2Proof.Laws.Length.Statement (.bbits r2 r3) :=
  ⟨rfl, rfl⟩
theorem Sys2Proof.Laws.Length.bclear (r2 : Sys2Proof.Reg) (r3 : Sys2Proof.Reg) : Sys2Proof.Laws.Length.Statement (.bclear r2 r3) :=
  ⟨rfl, rfl⟩
theorem Sys2Proof.Laws.Length.inpReg (r2 : Sys2Proof.Reg) (r3 : Sys2Proof.Reg) : Sys2Proof.Laws.Length.Statement (.inpReg r2 r3) :=
  ⟨rfl, rfl⟩
theorem Sys2Proof.Laws.Length.inpLit (l : Sys2Proof.Lit) (r3 : Sys2Proof.Reg) : Sys2Proof.Laws.Length.Statement (.inpLit l r3) :=
  by cases l <;> exact ⟨rfl, rfl⟩
theorem Sys2Proof.Laws.Length.outReg (r2 : Sys2Proof.Reg) (r3 : Sys2Proof.Reg) : Sys2Proof.Laws.Length.Statement (.outReg r2 r3) :=
  ⟨rfl, rfl⟩
theorem Sys2Proof.Laws.Length.outLit (l : Sys2Proof.Lit) (r3 : Sys2Proof.Reg) : Sys2Proof.Laws.Length.Statement (.outLit l r3) :=
  by cases l <;> exact ⟨rfl, rfl⟩
theorem Sys2Proof.Laws.Length.ljmp (r2 : Sys2Proof.Reg) (r3 : Sys2Proof.Reg) : Sys2Proof.Laws.Length.Statement (.ljmp r2 r3) :=
  ⟨rfl, rfl⟩
theorem Sys2Proof.Laws.Length.lcall (r2 : Sys2Proof.Reg) (r3 : Sys2Proof.Reg) : Sys2Proof.Laws.Length.Statement (.lcall r2 r3) :=
  ⟨rfl, rfl⟩
theorem Sys2Proof.Laws.Length.jmpAbs (l : Sys2Proof.Lit) (r3 : Sys2Proof.Reg) : Sys2Proof.Laws.Length.Statement (.jmpAbs l r3) :=
  by cases l <;> exact ⟨rfl, rfl⟩
theorem Sys2Proof.Laws.Length.callAbs (l : Sys2Proof.Lit) (r3 : Sys2Proof.Reg) : Sys2Proof.Laws.Length.Statement (.callAbs l r3) :=
  by cases l <;> exact ⟨rfl, rfl⟩
theorem Sys2Proof.Laws.Length.not (r3 : Sys2Proof.Reg) : Sys2Proof.Laws.Length.Statement (.not r3) :=
  ⟨rfl, rfl⟩
theorem Sys2Proof.Laws.Length.neg (r3 : Sys2Proof.Reg) : Sys2Proof.Laws.Length.Statement (.neg r3) :=
  ⟨rfl, rfl⟩
theorem Sys2Proof.Laws.Length.xchg (r3 : Sys2Proof.Reg) : Sys2Proof.Laws.Length.Statement (.xchg r3) :=
  ⟨rfl, rfl⟩
theorem Sys2Proof.Laws.Length.sxtbd (r3 : Sys2Proof.Reg) : Sys2Proof.Laws.Length.Statement (.sxtbd r3) :=
  ⟨rfl, rfl⟩
theorem Sys2Proof.Laws.Length.push (r3 : Sys2Proof.Reg) : Sys2Proof.Laws.Length.Statement (.push r3) :=
  ⟨rfl, rfl⟩
theorem Sys2Proof.Laws.Length.pop (r3 : Sys2Proof.Reg) : Sys2Proof.Laws.Length.Statement (.pop r3) :=
  ⟨rfl, rfl⟩
theorem Sys2Proof.Laws.Length.getpc (r3 : Sys2Proof.Reg) : Sys2Proof.Laws.Length.Statement (.getpc r3) :=
  ⟨rfl, rfl⟩
theorem Sys2Proof.Laws.Length.setflags (r3 : Sys2Proof.Reg) : Sys2Proof.Laws.Length.Statement (.setflags r3) :=
  ⟨rfl, rfl⟩
theorem Sys2Proof.Laws.Length.getflags (r3 : Sys2Proof.Reg) : Sys2Proof.Laws.Length.Statement (.getflags r3) :=
  ⟨rfl, rfl⟩
theorem Sys2Proof.Laws.Length.setyReg (r3 : Sys2Proof.Reg) : Sys2Proof.Laws.Length.Statement (.setyReg r3) :=
  ⟨rfl, rfl⟩
theorem Sys2Proof.Laws.Length.setyLit (l : Sys2Proof.Lit) : Sys2Proof.Laws.Length.Statement (.setyLit l) :=
  by cases l <;> exact ⟨rfl, rfl⟩
theorem Sys2Proof.Laws.Length.gety (r3 : Sys2Proof.Reg) : Sys2Proof.Laws.Length.Statement (.gety r3) :=
  ⟨rfl, rfl⟩
theorem Sys2Proof.Laws.Length.intReg (r3 : Sys2Proof.Reg) : Sys2Proof.Laws.Length.Statement (.intReg r3) :=
  ⟨rfl, rfl⟩
theorem Sys2Proof.Laws.Length.intLit (l : Sys2Proof.Lit) : Sys2Proof.Laws.Length.Statement (.intLit l) :=
  by cases l <;> exact ⟨rfl, rfl⟩
theorem Sys2Proof.Laws.Length.setiaReg (r3 : Sys2Proof.Reg) : Sys2Proof.Laws.Length.Statement (.setiaReg r3) :=
  ⟨rfl, rfl⟩
theorem Sys2Proof.Laws.Length.setiaLit (l : Sys2Proof.Lit) : Sys2Proof.Laws.Length.Statement (.setiaLit l) :=
  by cases l <;> exact ⟨rfl, rfl⟩
theorem Sys2Proof.Laws.Length.getia (r3 : Sys2Proof.Reg) : Sys2Proof.Laws.Length.Statement (.getia r3) :=
  ⟨rfl, rfl⟩
theorem Sys2Proof.Laws.Length.setcsReg (r3 : Sys2Proof.Reg) : Sys2Proof.Laws.Length.Statement (.setcsReg r3) :=
  ⟨rfl, rfl⟩
theorem Sys2Proof.Laws.Length.setcsLit (l : Sys2Proof.Lit) : Sys2Proof.Laws.Length.Statement (.setcsLit l) :=
  by cases l <;> exact ⟨rfl, rfl⟩
theorem Sys2Proof.Laws.Length.getcs (r3 : Sys2Proof.Reg) : Sys2Proof.Laws.Length.Statement (.getcs r3) :=
  ⟨rfl, rfl⟩
theorem Sys2Proof.Laws.Length.setdsReg (r3 : Sys2Proof.Reg) : Sys2Proof.Laws.Length.Statement (.setdsReg r3) :=
  ⟨rfl, rfl⟩
theorem Sys2Proof.Laws.Length.setdsLit (l : Sys2Proof.Lit) : Sys2Proof.Laws.Length.Statement (.setdsLit l) :=
  by cases l <;> exact ⟨rfl, rfl⟩
theorem Sys2Proof.Laws.Length.getds (r3 : Sys2Proof.Reg) : Sys2Proof.Laws.Length.Statement (.getds r3) :=
  ⟨rfl, rfl⟩
theorem Sys2Proof.Laws.Length.setssReg (r3 : Sys2Proof.Reg) : Sys2Proof.Laws.Length.Statement (.setssReg r3) :=
  ⟨rfl, rfl⟩
theorem Sys2Proof.Laws.Length.setssLit (l : Sys2Proof.Lit) : Sys2Proof.Laws.Length.Statement (.setssLit l) :=
  by cases l <;> exact ⟨rfl, rfl⟩
theorem Sys2Proof.Laws.Length.getss (r3 : Sys2Proof.Reg) : Sys2Proof.Laws.Length.Statement (.getss r3) :=
  ⟨rfl, rfl⟩
theorem Sys2Proof.Laws.Length.setisReg (r3 : Sys2Proof.Reg) : Sys2Proof.Laws.Length.Statement (.setisReg r3) :=
  ⟨rfl, rfl⟩
theorem Sys2Proof.Laws.Length.setisLit (l : Sys2Proof.Lit) : Sys2Proof.Laws.Length.Statement (.setisLit l) :=
  by cases l <;> exact ⟨rfl, rfl⟩
theorem Sys2Proof.Laws.Length.getis (r3 : Sys2Proof.Reg) : Sys2Proof.Laws.Length.Statement (.getis r3) :=
  ⟨rfl, rfl⟩
theorem Sys2Proof.Laws.Length.jmpRel (off : BitVec 9) : Sys2Proof.Laws.Length.Statement (.jmpRel off) :=
  ⟨rfl, rfl⟩
theorem Sys2Proof.Laws.Length.callRel (off : BitVec 9) : Sys2Proof.Laws.Length.Statement (.callRel off) :=
  ⟨rfl, rfl⟩
theorem Sys2Proof.Laws.Length.nop : Sys2Proof.Laws.Length.Statement .nop := ⟨rfl, rfl⟩
theorem Sys2Proof.Laws.Length.sleep : Sys2Proof.Laws.Length.Statement .sleep := ⟨rfl, rfl⟩
theorem Sys2Proof.Laws.Length.ret : Sys2Proof.Laws.Length.Statement .ret := ⟨rfl, rfl⟩
theorem Sys2Proof.Laws.Length.lret : Sys2Proof.Laws.Length.Statement .lret := ⟨rfl, rfl⟩
theorem Sys2Proof.Laws.Length.rfi : Sys2Proof.Laws.Length.Statement .rfi := ⟨rfl, rfl⟩
theorem Sys2Proof.Laws.Length.bovf : Sys2Proof.Laws.Length.Statement .bovf := ⟨rfl, rfl⟩
theorem Sys2Proof.Laws.Length.bocf : Sys2Proof.Laws.Length.Statement .bocf := ⟨rfl, rfl⟩
end

