-- ==== Sys2Proof/Tests/Slice0.lean ====
section
/-! SUPPORT. Small tests, all named theorems. The words of the decoder's tests are written from the
rows of spec/opcode_table.json; the results of the one-step tests are the rows of
spec/95_test_vectors.md that their names end with (V and T numbers) or the examples of the rules named
beside them. The witnesses at the end show, for every statement with hypotheses, states and operands
that meet them. -/

namespace Sys2Proof.Machine

/-! ## Helpers -/

/-- One byte placed in memory from outside. -/
def State.placeByte (s : State) (a v : Nat) : State := s.placeImage [(a, BitVec.ofNat 8 v)]

/-- What memory holds once words are placed at CS:PC and on. -/
def placed (s : State) : List Word → Memory
  | [] => s.mem
  | w :: ws => placed (s.storeCode w).advancePc ws

/-- Words placed at CS:PC and on. -/
def State.placeCode (s : State) (ws : List Word) : State := s.setMem (placed s ws)

/-- Other parameters of the implementation. -/
def State.withCfg (s : State) (c : Config) : State := { s with cfg := c }

end Sys2Proof.Machine

namespace Sys2Proof.Tests

open Sys2Proof Sys2Proof.Machine

/-- The reset state at the address where the vectors' code stands. -/
def at100 : State := State.reset.setPc 0x0100

/-- One step goes on, and `f` of the state it leaves is `v`. -/
def answers {α : Type} [DecidableEq α] (s : State) (f : State → α) (v : α) : Bool :=
  match step s with
  | .next t => decide (f t = v)
  | _ => false

/-- One step is refused for the reason `r`. -/
def refuses (s : State) (r : Refusal) : Bool :=
  match step s with
  | .refused q => decide (q = r)
  | _ => false

/-- The words are the encoding of the instruction, and they decode to it. -/
def spells (p : List Word × Instr) : Bool :=
  decide (encode p.2 = p.1) && decide (decodeWords (p.1.headD 0) (p.1.tail.headD 0) = .ok p.2) &&
    decide (decode (encodeBytes p.2 ++ [0xAB]) = .ok (p.2, [0xAB]))

/-! ## Well-formed terms -/

theorem test_literal_15_is_ill_formed : ([.loadLit 1 (.short 15) 3, .storeBLit 1 (.short 15) 3,
    .addLit (.short 15) 3, .beqLit (.short 15) 3, .set (.short 15) 3, .inpLit (.short 15) 3,
    .jmpAbs (.short 15) 3, .setyLit (.short 15), .intLit (.short 15), .setcsLit (.short 15)] :
    List Instr).all (fun i => !i.wellFormed) = true := by decide

theorem test_literal_14_and_word_15_are_well_formed :
    (Instr.addLit (.short 14) 3).wellFormed = true ∧ (Instr.addLit (.ext 15) 3).wellFormed = true ∧
    (Instr.nop).wellFormed = true := by decide

/-- The ill-formed literal's own encoding announces a word that it does not have. -/
theorem test_ill_formed_does_not_come_back :
    decode (encodeBytes (.addLit (.short 15) 3)) = .error .truncated := by decide

/-! ## Decoding and encoding, every row of the table -/

/-- The memory instructions (R82). -/
theorem test_words_ram : ([
    ([0x8153], .loadLit 1 (.short 5) 3), ([0x81F3, 0x000E], .loadLit 1 (.ext 0x000E) 3),
    ([0x9123], .loadReg 1 2 3), ([0xA153], .loadBLit 1 (.short 5) 3),
    ([0xB123], .loadBReg 1 2 3), ([0xC153], .storeLit 1 (.short 5) 3),
    ([0xD123], .storeReg 1 2 3), ([0xE153], .storeBLit 1 (.short 5) 3),
    ([0xF123], .storeBReg 1 2 3)] :
    List (List Word × Instr)).all spells = true := by decide

/-- The ALU instructions (R83, R84). -/
theorem test_words_alu : ([
    ([0x4023], .addReg 2 3), ([0x4153], .addLit (.short 5) 3),
    ([0x41F3, 0x000E], .addLit (.ext 0x000E) 3), ([0x4223], .subReg 2 3),
    ([0x4353], .subLit (.short 5) 3), ([0x4423], .addc 2 3), ([0x4523], .subbReg 2 3),
    ([0x4653], .subbLit (.short 5) 3), ([0x4723], .and 2 3), ([0x4823], .or 2 3),
    ([0x4923], .xor 2 3), ([0x4A23], .sllReg 2 3), ([0x4B53], .sllLit (.short 5) 3),
    ([0x4C23], .srlReg 2 3), ([0x4D53], .srlLit (.short 5) 3), ([0x4E23], .sraReg 2 3),
    ([0x4F53], .sraLit (.short 5) 3), ([0x5023], .rotlReg 2 3),
    ([0x5153], .rotlLit (.short 5) 3), ([0x5223], .rotrReg 2 3),
    ([0x5353], .rotrLit (.short 5) 3), ([0x5423], .umulReg 2 3),
    ([0x5553], .umulLit (.short 5) 3), ([0x5623], .udivReg 2 3),
    ([0x5753], .udivLit (.short 5) 3), ([0x5823], .umodReg 2 3),
    ([0x5953], .umodLit (.short 5) 3), ([0x5A23], .mulReg 2 3),
    ([0x5B53], .mulLit (.short 5) 3), ([0x5C23], .divReg 2 3), ([0x5D53], .divLit (.short 5) 3),
    ([0x5E23], .modReg 2 3), ([0x5F53], .modLit (.short 5) 3), ([0x2003], .not 3),
    ([0x2013], .neg 3)] :
    List (List Word × Instr)).all spells = true := by decide

/-- The conditional instructions (R83, R86). -/
theorem test_words_branch : ([
    ([0x6323], .beqReg 2 3), ([0x6453], .beqLit (.short 5) 3),
    ([0x64F3, 0x000E], .beqLit (.ext 0x000E) 3), ([0x6523], .bneqReg 2 3),
    ([0x6653], .bneqLit (.short 5) 3), ([0x6723], .bgReg 2 3), ([0x6853], .bgLit (.short 5) 3),
    ([0x6923], .bgeReg 2 3), ([0x6A53], .bgeLit (.short 5) 3), ([0x6B23], .bugReg 2 3),
    ([0x6C53], .bugLit (.short 5) 3), ([0x6D23], .bugeReg 2 3),
    ([0x6E53], .bugeLit (.short 5) 3), ([0x6F23], .bbits 2 3), ([0x7023], .bclear 2 3),
    ([0x0008], .bovf), ([0x0009], .bocf)] :
    List (List Word × Instr)).all spells = true := by decide

/-- The register operations (R83, R84). -/
theorem test_words_register : ([
    ([0x6023], .swp 2 3), ([0x6123], .cpy 2 3), ([0x6253], .set (.short 5) 3),
    ([0x62F3, 0x000E], .set (.ext 0x000E) 3), ([0x2023], .xchg 3), ([0x2033], .sxtbd 3)] :
    List (List Word × Instr)).all spells = true := by decide

/-- The jumps, calls and returns (R83 to R86). -/
theorem test_words_jump : ([
    ([0x7C23], .ljmp 2 3), ([0x7D23], .lcall 2 3), ([0x7E53], .jmpAbs (.short 5) 3),
    ([0x7EF3, 0x000E], .jmpAbs (.ext 0x000E) 3), ([0x7F53], .callAbs (.short 5) 3),
    ([0x11F1], .jmpRel 0x1F1), ([0x13F1], .callRel 0x1F1), ([0x0002], .ret), ([0x0003], .lret)] :
    List (List Word × Instr)).all spells = true := by decide

/-- PUSH and POP (R84). -/
theorem test_words_stack : ([
    ([0x2043], .push 3), ([0x2053], .pop 3)] :
    List (List Word × Instr)).all spells = true := by decide

/-- The special instructions (R84, R86). -/
theorem test_words_special : ([
    ([0x2063], .getpc 3), ([0x2073], .setflags 3), ([0x2083], .getflags 3),
    ([0x2093], .setyReg 3), ([0x20A5], .setyLit (.short 5)),
    ([0x20AF, 0x000E], .setyLit (.ext 0x000E)), ([0x20B3], .gety 3), ([0x0000], .nop),
    ([0x0001], .sleep)] :
    List (List Word × Instr)).all spells = true := by decide

/-- The interrupt instructions (R84, R86). -/
theorem test_words_interrupt : ([
    ([0x20C3], .intReg 3), ([0x20D5], .intLit (.short 5)),
    ([0x20DF, 0x000E], .intLit (.ext 0x000E)), ([0x20E3], .setiaReg 3),
    ([0x20F5], .setiaLit (.short 5)), ([0x2103], .getia 3), ([0x0004], .rfi)] :
    List (List Word × Instr)).all spells = true := by decide

/-- INP and OUT (R83). -/
theorem test_words_io : ([
    ([0x7123], .inpReg 2 3), ([0x7253], .inpLit (.short 5) 3),
    ([0x72F3, 0x000E], .inpLit (.ext 0x000E) 3), ([0x7323], .outReg 2 3),
    ([0x7453], .outLit (.short 5) 3)] :
    List (List Word × Instr)).all spells = true := by decide

/-- The segment instructions (R84). -/
theorem test_words_segment : ([
    ([0x2113], .setcsReg 3), ([0x2125], .setcsLit (.short 5)),
    ([0x212F, 0x000E], .setcsLit (.ext 0x000E)), ([0x2133], .getcs 3), ([0x2143], .setdsReg 3),
    ([0x2155], .setdsLit (.short 5)), ([0x2163], .getds 3), ([0x2173], .setssReg 3),
    ([0x2185], .setssLit (.short 5)), ([0x2193], .getss 3), ([0x21A3], .setisReg 3),
    ([0x21B5], .setisLit (.short 5)), ([0x21C3], .getis 3)] :
    List (List Word × Instr)).all spells = true := by decide

/-- The escape, its boundary, and the sign of a displacement (R78, R79). -/
theorem test_literal_and_displacement_values :
    litValue (.short 14) = 0x000E ∧ litValue (.ext 0xFFFE) = 0xFFFE ∧
    displacement 0x1FE = -2 ∧ displacement 0x100 = -256 ∧ displacement 0x0FF = 255 := by decide

/-- The first and the last word of every range without an instruction, and their neighbours (R87). -/
theorem test_reserved_words :
    decodeWords 0x7500 0 = .error (.unassignedP2 0x7500) ∧
    decodeWords 0x7BFF 0 = .error (.unassignedP2 0x7BFF) ∧
    decodeWords 0x21D0 0 = .error (.unassignedP1 0x21D0) ∧
    decodeWords 0x2FFF 0 = .error (.unassignedP1 0x2FFF) ∧
    decodeWords 0x3000 0 = .error (.reservedP1 0x3000) ∧
    decodeWords 0x3FFF 0 = .error (.reservedP1 0x3FFF) ∧
    decodeWords 0x1400 0 = .error (.unassignedL9 0x1400) ∧
    decodeWords 0x1FFF 0 = .error (.unassignedL9 0x1FFF) ∧
    decodeWords 0x0005 0 = .error (.unassignedP0 0x0005) ∧
    decodeWords 0x000A 0 = .error (.unassignedP0 0x000A) ∧
    decodeWords 0x0800 0 = .error (.reservedP0 0x0800) ∧
    decodeWords 0x0FFF 0 = .error (.reservedP0 0x0FFF) := by decide

theorem test_neighbours_of_reserved_words :
    decodeWords 0x74F1 7 = .ok (.outLit (.ext 7) 1) ∧ decodeWords 0x7C00 0 = .ok (.ljmp 0 0) ∧
    decodeWords 0x21CF 0 = .ok (.getis 15) ∧ decodeWords 0x4000 0 = .ok (.addReg 0 0) ∧
    decodeWords 0x13FF 0 = .ok (.callRel 0x1FF) ∧ decodeWords 0x1000 0 = .ok (.jmpRel 0) ∧
    decodeWords 0x2000 0 = .ok (.not 0) := by decide

/-- The extension word stands in bits 31:16 of a table word, zero where the table gives no bits. -/
theorem test_table_words :
    decodeTableWord 16 0x8245 = some (.loadLit 2 (.short 4) 5) ∧
    decodeTableWord 32 0xFFFE81F3 = some (.loadLit 1 (.ext 0xFFFE) 3) ∧
    decodeTableWord 16 0xFFFE41F1 = some (.addLit (.ext 0) 1) ∧
    decodeTableWord 16 0x7500 = none := by decide

theorem test_placed_word_is_run_first :
    answers (State.reset.withFetchWord 16 0x62E1) (fun t => (t.pc, t.reg 1)) (2, 14) ∧
    answers (State.reset.withFetchWord 32 0x123462F1) (fun t => (t.pc, t.reg 1)) (4, 0x1234) := by
  decide

/-! ## Fetching -/

/-- R81 in the fetch: a PC that passes 0xFFFF carries into CS between the two words (R15). -/
theorem test_extension_word_in_next_segment :
    answers (at100 |>.setPc 0xFFFE |>.setCs 0x0003 |>.placeCode [0x62F5, 0xABCD])
      (fun t => (t.pc, t.cs, t.reg 5)) (0x0002, 0x0004, 0xABCD) := by decide

theorem test_refusals_V270_V276 :
    refuses (at100 |>.placeCode [0x7500]) (.reservedWord (.unassignedP2 0x7500)) ∧
    refuses (at100 |>.placeCode [0x21D0]) (.reservedWord (.unassignedP1 0x21D0)) ∧
    refuses (at100 |>.placeCode [0x3000]) (.reservedWord (.reservedP1 0x3000)) ∧
    refuses (at100 |>.placeCode [0x1400]) (.reservedWord (.unassignedL9 0x1400)) ∧
    refuses (at100 |>.placeCode [0x0005]) (.reservedWord (.unassignedP0 0x0005)) ∧
    refuses (at100 |>.placeCode [0x0800]) (.reservedWord (.reservedP0 0x0800)) ∧
    refuses (at100 |>.setPc 0xFFFF) .straddlingFetch := by decide

theorem test_skip_over_reserved_word_V150 :
    refuses (at100 |>.setReg 1 3 |>.placeCode [0x6511, 0x7500])
      (.reservedWord (.unassignedP2 0x7500)) := by decide

/-- A first word at 0xFFFD leaves PC at 0xFFFF, where the extension word may not be fetched (R49). -/
theorem test_extension_word_at_FFFF_is_refused :
    refuses (at100 |>.setPc 0xFFFD |>.placeCode [0x62F5]) .straddlingFetch := by decide

/-! ## One step of each instruction -/

theorem test_loadLit_V2 : answers
    (at100 |>.setReg 1 0x1000 |>.placeByte 0x00FFE 0xCA |>.placeByte 0x00FFF 0xFE
    |>.placeCode [0x81F3, 0xFFFE])
    (fun t => (t.pc, t.reg 3)) (0x0104, 0xCAFE) := by decide

theorem test_loadLit_V5 : answers
    (at100 |>.setDs 0x0001 |>.setReg 1 0xFFFF |>.placeByte 0x10000 0xBB |>.placeByte 0x1FFFF 0xAA
    |>.placeCode [0x8102])
    (fun t => (t.pc, t.reg 2)) (0x0102, 0xAABB) := by decide

theorem test_loadReg_V1 : answers
    (at100 |>.setDs 0x0002 |>.setReg 1 0x1000 |>.setReg 2 0x0010 |>.placeByte 0x21010 0x12
    |>.placeByte 0x21011 0x34 |>.placeCode [0x9123])
    (fun t => (t.pc, t.reg 3)) (0x0102, 0x1234) := by decide

theorem test_loadReg_V4 : answers
    (at100 |>.setDs 0x0001 |>.setSs 0x0007 |>.setReg 0 0x0010 |>.setReg 15 0x0200
    |>.placeByte 0x10210 0x77 |>.placeByte 0x10211 0x88 |>.placeCode [0x90F2])
    (fun t => (t.pc, t.reg 2)) (0x0102, 0x7788) := by decide

theorem test_loadBLit_V9 : answers
    (at100 |>.setDs 0x0012 |>.setReg 1 0x0300 |>.setReg 3 0xAB00 |>.placeByte 0x202FF 0x80
    |>.placeCode [0xA1F3, 0xFFFF])
    (fun t => (t.pc, t.reg 3)) (0x0104, 0xAB80) := by decide

theorem test_loadBReg_V8 : answers
    (at100 |>.setReg 1 0x0300 |>.setReg 2 0x0001 |>.setReg 3 0xFFFF |>.placeByte 0x00301 0x7F
    |>.placeCode [0xB123])
    (fun t => (t.pc, t.reg 3)) (0x0102, 0xFF7F) := by decide

theorem test_storeLit_V11 : answers
    (at100 |>.setDs 0x0001 |>.setReg 1 0xFFFF |>.setReg 3 0x1234 |>.placeCode [0xC103])
    (fun t => (t.pc, t.mem.read 0x10000, t.mem.read 0x1FFFF)) (0x0102, 0x34, 0x12) := by decide

theorem test_storeLit_V12 : answers
    (at100 |>.setSs 0x0003 |>.setReg 15 0x0FFE |>.setReg 3 0x0A0B |>.placeCode [0xCF23])
    (fun t => (t.pc, t.mem.read 0x31000, t.mem.read 0x31001)) (0x0102, 0x0A, 0x0B) := by decide

theorem test_storeReg_V10 : answers
    (at100 |>.setDs 0x000F |>.setReg 1 0x4000 |>.setReg 2 0x0002 |>.setReg 3 0xBEEF
    |>.placeCode [0xD123])
    (fun t => (t.pc, t.mem.read 0xF4002, t.mem.read 0xF4003)) (0x0102, 0xBE, 0xEF) := by decide

theorem test_storeBLit_V13 : answers
    (at100 |>.setReg 1 0x4000 |>.setReg 3 0x12FE |>.placeCode [0xE153])
    (fun t => (t.pc, t.mem.read 0x04005)) (0x0102, 0xFE) := by decide

theorem test_storeBReg_V14 : answers
    (at100 |>.setSs 0x0002 |>.setReg 14 0x0010 |>.setReg 2 0xFFFF |>.setReg 3 0x00C3
    |>.placeCode [0xFE23])
    (fun t => (t.pc, t.mem.read 0x2000F)) (0x0102, 0xC3) := by decide

theorem test_addReg_V21 : answers
    (at100 |>.setReg 1 0x8000 |>.setReg 2 0x8000 |>.placeCode [0x4021])
    (fun t => (t.pc, t.reg 1, t.flags)) (0x0102, 0x0000, 0x0003) := by decide

theorem test_addReg_V24 : answers
    (at100 |>.setReg 1 0x4000 |>.placeCode [0x4011])
    (fun t => (t.pc, t.reg 1, t.flags)) (0x0102, 0x8000, 0x0002) := by decide

theorem test_addLit_V22 : answers
    (at100 |>.setFlags 0x0003 |>.setReg 1 0x0001 |>.placeCode [0x41E1])
    (fun t => (t.pc, t.reg 1, t.flags)) (0x0102, 0x000F, 0x0000) := by decide

theorem test_addLit_V23 : answers
    (at100 |>.setReg 1 0x7FFF |>.placeCode [0x41F1, 0x8000])
    (fun t => (t.pc, t.reg 1, t.flags)) (0x0104, 0xFFFF, 0x0000) := by decide

theorem test_subReg_V29 : answers
    (at100 |>.setReg 1 0x8000 |>.setReg 2 0x0001 |>.placeCode [0x4221])
    (fun t => (t.pc, t.reg 1, t.flags)) (0x0102, 0x7FFF, 0x0002) := by decide

theorem test_subReg_V30 : answers
    (at100 |>.setFlags 0x0003 |>.setReg 1 0x1234 |>.placeCode [0x4211])
    (fun t => (t.pc, t.reg 1, t.flags)) (0x0102, 0x0000, 0x0000) := by decide

theorem test_subLit_V31 : answers
    (at100 |>.setReg 1 0x7FFF |>.placeCode [0x43F1, 0xFFFF])
    (fun t => (t.pc, t.reg 1, t.flags)) (0x0104, 0x8000, 0x0003) := by decide

theorem test_subLit_V32 : answers
    (at100 |>.setReg 1 0x0002 |>.placeCode [0x4331])
    (fun t => (t.pc, t.reg 1, t.flags)) (0x0102, 0xFFFF, 0x0001) := by decide

theorem test_addc_V26 : answers
    (at100 |>.setFlags 0x0001 |>.setReg 1 0xFFFF |>.setReg 2 0xFFFF |>.placeCode [0x4421])
    (fun t => (t.pc, t.reg 1, t.flags)) (0x0102, 0xFFFF, 0x0001) := by decide

theorem test_addc_V27 : answers
    (at100 |>.setFlags 0x0001 |>.setReg 1 0x7FFF |>.setReg 2 0x0000 |>.placeCode [0x4421])
    (fun t => (t.pc, t.reg 1, t.flags)) (0x0102, 0x8000, 0x0002) := by decide

theorem test_subbReg_V33 : answers
    (at100 |>.setFlags 0x0001 |>.setReg 1 0x0000 |>.setReg 2 0xFFFF |>.placeCode [0x4521])
    (fun t => (t.pc, t.reg 1, t.flags)) (0x0102, 0x0000, 0x0001) := by decide

theorem test_subbReg_V35 : answers
    (at100 |>.setFlags 0x0000 |>.setReg 1 0x0005 |>.setReg 2 0x0005 |>.placeCode [0x4521])
    (fun t => (t.pc, t.reg 1, t.flags)) (0x0102, 0x0000, 0x0000) := by decide

theorem test_subbLit_V34 : answers
    (at100 |>.setFlags 0x0001 |>.setReg 1 0x8000 |>.placeCode [0x4601])
    (fun t => (t.pc, t.reg 1, t.flags)) (0x0102, 0x7FFF, 0x0002) := by decide

theorem test_and_V75 : answers
    (at100 |>.setFlags 0x0003 |>.setReg 1 0xFFFF |>.setReg 2 0x8001 |>.placeCode [0x4721])
    (fun t => (t.pc, t.reg 1, t.flags)) (0x0102, 0x8001, 0x0003) := by decide

theorem test_or_V76 : answers
    (at100 |>.setReg 1 0x8000 |>.setReg 2 0x0001 |>.placeCode [0x4821])
    (fun t => (t.pc, t.reg 1)) (0x0102, 0x8001) := by decide

theorem test_xor_V77 : answers
    (at100 |>.setReg 1 0xA5A5 |>.placeCode [0x4911])
    (fun t => (t.pc, t.reg 1)) (0x0102, 0x0000) := by decide

theorem test_xor_V78 : answers
    (at100 |>.setReg 1 0xFFFF |>.setReg 2 0x00FF |>.placeCode [0x4921])
    (fun t => (t.pc, t.reg 1)) (0x0102, 0xFF00) := by decide

theorem test_sllReg_V83 : answers
    (at100 |>.setFlags 0x0000 |>.setReg 1 0x8001 |>.setReg 2 0x0010 |>.placeCode [0x4A21])
    (fun t => (t.pc, t.reg 1, t.flags)) (0x0102, 0x0000, 0x0001) := by decide

theorem test_sllReg_V84 : answers
    (at100 |>.setFlags 0x0001 |>.setReg 1 0x8001 |>.setReg 2 0x0011 |>.placeCode [0x4A21])
    (fun t => (t.pc, t.reg 1, t.flags)) (0x0102, 0x0000, 0x0000) := by decide

theorem test_sllLit_V85 : answers
    (at100 |>.setReg 1 0x1234 |>.placeCode [0x4B41])
    (fun t => (t.pc, t.reg 1, t.flags)) (0x0102, 0x2340, 0x0001) := by decide

theorem test_sllLit_V86 : answers
    (at100 |>.setReg 1 0x0001 |>.placeCode [0x4BF1, 0x0010])
    (fun t => (t.pc, t.reg 1, t.flags)) (0x0104, 0x0000, 0x0001) := by decide

theorem test_srlReg_V90 : answers
    (at100 |>.setFlags 0x0000 |>.setReg 1 0x8001 |>.setReg 2 0x0010 |>.placeCode [0x4C21])
    (fun t => (t.pc, t.reg 1, t.flags)) (0x0102, 0x0000, 0x0001) := by decide

theorem test_srlReg_V102 : answers
    (at100 |>.setReg 1 0x8001 |>.setReg 2 0x0011
    |>.withCfg { Config.standard with shiftBig := .mask4 } |>.placeCode [0x4C21])
    (fun t => (t.pc, t.reg 1, t.flags)) (0x0102, 0x4000, 0x0001) := by decide

theorem test_srlLit_V92 : answers
    (at100 |>.setReg 1 0x1238 |>.placeCode [0x4D41])
    (fun t => (t.pc, t.reg 1, t.flags)) (0x0102, 0x0123, 0x0001) := by decide

theorem test_sraReg_V94 : answers
    (at100 |>.setFlags 0x0000 |>.setReg 1 0x8001 |>.setReg 2 0x0001 |>.placeCode [0x4E21])
    (fun t => (t.pc, t.reg 1, t.flags)) (0x0102, 0xC000, 0x0001) := by decide

theorem test_sraReg_V97 : answers
    (at100 |>.setFlags 0x0000 |>.setReg 1 0x8001 |>.setReg 2 0x0011 |>.placeCode [0x4E21])
    (fun t => (t.pc, t.reg 1, t.flags)) (0x0102, 0xFFFF, 0x0001) := by decide

theorem test_sraLit_V99 : answers
    (at100 |>.setReg 1 0x7FF4 |>.placeCode [0x4F31])
    (fun t => (t.pc, t.reg 1, t.flags)) (0x0102, 0x0FFE, 0x0001) := by decide

theorem test_sraLit_V100 : answers
    (at100 |>.setFlags 0x0001 |>.setReg 1 0x7FFF |>.placeCode [0x4FF1, 0x0014])
    (fun t => (t.pc, t.reg 1, t.flags)) (0x0104, 0x0000, 0x0000) := by decide

theorem test_rotlReg_V106 : answers
    (at100 |>.setReg 1 0x1234 |>.setReg 2 0x0010 |>.placeCode [0x5021])
    (fun t => (t.pc, t.reg 1)) (0x0102, 0x1234) := by decide

theorem test_rotlReg_V107 : answers
    (at100 |>.setReg 1 0x1234 |>.setReg 2 0x0014 |>.placeCode [0x5021])
    (fun t => (t.pc, t.reg 1)) (0x0102, 0x2341) := by decide

theorem test_rotlLit_V105 : answers
    (at100 |>.setFlags 0x0000 |>.setReg 1 0x8001 |>.placeCode [0x5111])
    (fun t => (t.pc, t.reg 1, t.flags)) (0x0102, 0x0003, 0x0000) := by decide

theorem test_rotrReg_V109 : answers
    (at100 |>.setReg 1 0x1234 |>.setReg 2 0x000C |>.placeCode [0x5221])
    (fun t => (t.pc, t.reg 1)) (0x0102, 0x2341) := by decide

theorem test_rotrLit_V108 : answers
    (at100 |>.setFlags 0x0000 |>.setReg 1 0x8001 |>.placeCode [0x5311])
    (fun t => (t.pc, t.reg 1, t.flags)) (0x0102, 0xC000, 0x0000) := by decide

theorem test_rotrLit_V110 : answers
    (at100 |>.setFlags 0x0001 |>.setReg 1 0x1234 |>.placeCode [0x5301])
    (fun t => (t.pc, t.reg 1, t.flags)) (0x0102, 0x1234, 0x0001) := by decide

theorem test_umulReg_V40 : answers
    (at100 |>.setY 0xAAAA |>.setFlags 0x0003 |>.setReg 1 0x1234 |>.setReg 2 0x0100
    |>.placeCode [0x5421])
    (fun t => (t.pc, t.reg 1, t.y, t.flags)) (0x0102, 0x3400, 0x0012, 0x0003) := by decide

theorem test_umulLit_V42 : answers
    (at100 |>.setReg 1 0x0002 |>.placeCode [0x55F1, 0xFFFF])
    (fun t => (t.pc, t.reg 1, t.y)) (0x0104, 0xFFFE, 0x0001) := by decide

theorem test_udivReg_V50 : answers
    (at100 |>.setFlags 0x0004 |>.setReg 1 0x0007 |>.setReg 2 0x0002 |>.placeCode [0x5621])
    (fun t => (t.pc, t.reg 1, t.y, t.flags)) (0x0102, 0x0003, 0x0000, 0x0000) := by decide

theorem test_udivReg_V54 : answers
    (at100 |>.setFlags 0x0400 |>.setReg 1 0x0007 |>.setReg 2 0x0000 |>.placeCode [0x5621])
    (fun t => (t.pc, t.flags)) (0x0102, 0x0404) := by decide

theorem test_udivLit_V51 : answers
    (at100 |>.setY 0xFFFF |>.setReg 1 0xFFFF |>.placeCode [0x5731])
    (fun t => (t.pc, t.reg 1, t.y)) (0x0102, 0x5555, 0x5555) := by decide

theorem test_umodReg_V61 : answers
    (at100 |>.setY 0x0000 |>.setFlags 0x0000 |>.setReg 1 0x0005 |>.setReg 2 0x0000
    |>.placeCode [0x5821])
    (fun t => (t.pc, t.y, t.flags)) (0x0102, 0x0000, 0x0004) := by decide

theorem test_umodLit_V60 : answers
    (at100 |>.setY 0x0001 |>.setReg 1 0x0000 |>.placeCode [0x59A1])
    (fun t => (t.pc, t.reg 1, t.y)) (0x0102, 0x0006, 0x0001) := by decide

theorem test_mulReg_V44 : answers
    (at100 |>.setReg 1 0x8000 |>.setReg 2 0x8000 |>.placeCode [0x5A21])
    (fun t => (t.pc, t.reg 1, t.y)) (0x0102, 0x0000, 0x4000) := by decide

theorem test_mulReg_V45 : answers
    (at100 |>.setReg 1 0x8000 |>.setReg 2 0x7FFF |>.placeCode [0x5A21])
    (fun t => (t.pc, t.reg 1, t.y)) (0x0102, 0x8000, 0xC000) := by decide

theorem test_mulLit_V43 : answers
    (at100 |>.setReg 1 0x0002 |>.placeCode [0x5BF1, 0xFFFF])
    (fun t => (t.pc, t.reg 1, t.y)) (0x0104, 0xFFFE, 0xFFFF) := by decide

theorem test_divReg_V56 : answers
    (at100 |>.setY 0xFFFF |>.setReg 1 0xFFF9 |>.setReg 2 0xFFFE |>.placeCode [0x5C21])
    (fun t => (t.pc, t.reg 1, t.y)) (0x0102, 0x0003, 0x0000) := by decide

theorem test_divReg_V58 : answers
    (at100 |>.setY 0x8000 |>.setReg 1 0x0000 |>.setReg 2 0xFFFF |>.placeCode [0x5C21])
    (fun t => (t.pc, t.reg 1, t.y, t.flags)) (0x0102, 0x0000, 0x8000, 0x0000) := by decide

theorem test_divLit_V57 : answers
    (at100 |>.setY 0x0000 |>.setReg 1 0xFFF9 |>.placeCode [0x5D21])
    (fun t => (t.pc, t.reg 1, t.y)) (0x0102, 0x7FFC, 0x0000) := by decide

theorem test_modReg_V62 : answers
    (at100 |>.setY 0x0000 |>.setReg 1 0x0007 |>.setReg 2 0xFFFE |>.placeCode [0x5E21])
    (fun t => (t.pc, t.reg 1, t.y)) (0x0102, 0x0001, 0x0000) := by decide

theorem test_modReg_V63 : answers
    (at100 |>.setY 0xFFFF |>.setReg 1 0xFFF9 |>.setReg 2 0xFFFE |>.placeCode [0x5E21])
    (fun t => (t.pc, t.reg 1, t.y)) (0x0102, 0xFFFF, 0xFFFF) := by decide

theorem test_modLit_V64 : answers
    (at100 |>.setY 0x8000 |>.setReg 1 0x0000 |>.placeCode [0x5FF1, 0xFFFF])
    (fun t => (t.pc, t.reg 1, t.y)) (0x0104, 0x0000, 0x8000) := by decide

theorem test_modLit_V65 : answers
    (at100 |>.setY 0xFFFF |>.setFlags 0x0004 |>.setReg 1 0xFFFF |>.placeCode [0x5F31])
    (fun t => (t.pc, t.reg 1, t.y, t.flags)) (0x0102, 0xFFFF, 0xFFFF, 0x0000) := by decide

theorem test_swp_V161 : answers
    (at100 |>.setReg 15 0x1000 |>.setReg 0 0x2000 |>.placeCode [0x600F])
    (fun t => (t.pc, t.reg 0, t.reg 15)) (0x0102, 0x1000, 0x2000) := by decide

theorem test_cpy_V162 : answers
    (at100 |>.setReg 15 0x0FF0 |>.placeCode [0x61FE])
    (fun t => (t.pc, t.reg 14)) (0x0102, 0x0FF0) := by decide

theorem test_set_V165 : answers
    (at100 |>.setReg 1 0xFFFF |>.placeCode [0x62E1])
    (fun t => (t.pc, t.reg 1)) (0x0102, 0x000E) := by decide

theorem test_set_V166 : answers
    (at100 |>.setReg 1 0xFFFF |>.placeCode [0x62F1, 0x000F])
    (fun t => (t.pc, t.reg 1)) (0x0104, 0x000F) := by decide

theorem test_beqLit_V122 : answers
    (at100 |>.setReg 1 0x1234 |>.placeCode [0x64F1, 0x1234, 0x6215, 0x6216, 0x6217])
    (fun t => (t.pc)) (0x0104) := by decide

theorem test_beqLit_V123 : answers
    (at100 |>.setReg 1 0x1235 |>.placeCode [0x64F1, 0x1234, 0x6215, 0x6216, 0x6217])
    (fun t => (t.pc)) (0x0106) := by decide

theorem test_bneqReg_V125 : answers
    (at100 |>.setReg 1 0x0007 |>.placeCode [0x6511, 0x6215, 0x6216, 0x6217])
    (fun t => (t.pc)) (0x0104) := by decide

theorem test_bneqReg_V152 : answers
    (at100 |>.setPc 0xFFFC |>.setReg 1 0x0003 |>.placeByte 0x10000 0x11 |>.placeByte 0x10001 0x11
    |>.placeCode [0x6511, 0x62F5])
    (fun t => (t.pc, t.cs)) (0x0002, 0x0001) := by decide

theorem test_bneqLit_V124 : answers
    (at100 |>.setReg 1 0x0000 |>.placeCode [0x6601, 0x6215, 0x6216, 0x6217])
    (fun t => (t.pc)) (0x0104) := by decide

theorem test_bgReg_V126 : answers
    (at100 |>.setReg 1 0x0001 |>.setReg 2 0xFFFF |>.placeCode [0x6721, 0x6215, 0x6216, 0x6217])
    (fun t => (t.pc)) (0x0102) := by decide

theorem test_bgReg_V127 : answers
    (at100 |>.setReg 1 0x8000 |>.setReg 2 0x7FFF |>.placeCode [0x6721, 0x6215, 0x6216, 0x6217])
    (fun t => (t.pc)) (0x0104) := by decide

theorem test_bgLit_V128 : answers
    (at100 |>.setReg 1 0x0000 |>.placeCode [0x68F1, 0xFFFF, 0x6215, 0x6216, 0x6217])
    (fun t => (t.pc)) (0x0104) := by decide

theorem test_bgLit_V129 : answers
    (at100 |>.setReg 1 0x0005 |>.placeCode [0x6851, 0x6215, 0x6216, 0x6217])
    (fun t => (t.pc)) (0x0104) := by decide

theorem test_bgeReg_V131 : answers
    (at100 |>.setReg 1 0xFFFF |>.setReg 2 0x0000 |>.placeCode [0x6921, 0x6215, 0x6216, 0x6217])
    (fun t => (t.pc)) (0x0104) := by decide

theorem test_bgeLit_V130 : answers
    (at100 |>.setReg 1 0x0005 |>.placeCode [0x6A51, 0x6215, 0x6216, 0x6217])
    (fun t => (t.pc)) (0x0102) := by decide

theorem test_bugReg_V132 : answers
    (at100 |>.setReg 1 0x0001 |>.setReg 2 0xFFFF |>.placeCode [0x6B21, 0x6215, 0x6216, 0x6217])
    (fun t => (t.pc)) (0x0104) := by decide

theorem test_bugLit_V133 : answers
    (at100 |>.setReg 1 0x0000 |>.placeCode [0x6C01, 0x6215, 0x6216, 0x6217])
    (fun t => (t.pc)) (0x0104) := by decide

theorem test_bugeReg_V134 : answers
    (at100 |>.setReg 1 0x8000 |>.setReg 2 0x7FFF |>.placeCode [0x6D21, 0x6215, 0x6216, 0x6217])
    (fun t => (t.pc)) (0x0102) := by decide

theorem test_bugeLit_V135 : answers
    (at100 |>.setReg 1 0x0000 |>.placeCode [0x6E01, 0x6215, 0x6216, 0x6217])
    (fun t => (t.pc)) (0x0102) := by decide

theorem test_bbits_V136 : answers
    (at100 |>.setReg 1 0x00F0 |>.setReg 2 0x0F0F |>.placeCode [0x6F21, 0x6215, 0x6216, 0x6217])
    (fun t => (t.pc)) (0x0104) := by decide

theorem test_bclear_V138 : answers
    (at100 |>.setReg 1 0x00F0 |>.setReg 2 0x0F0F |>.placeCode [0x7021, 0x6215, 0x6216, 0x6217])
    (fun t => (t.pc)) (0x0102) := by decide

theorem test_bclear_V139 : answers
    (at100 |>.setReg 1 0x00F0 |>.setReg 2 0x0010 |>.placeCode [0x7021, 0x6215, 0x6216, 0x6217])
    (fun t => (t.pc)) (0x0104) := by decide

theorem test_inpReg_V240 : answers
    (at100 |>.setReg 2 0x0110 |>.setDevIn [0xCAFE] |>.placeCode [0x7121])
    (fun t => (t.pc, t.reg 1, t.busLog)) (0x0102, 0xCAFE, [.ioRead 0x10 0xCAFE]) := by decide

theorem test_inpLit_V241 : answers
    (at100 |>.setDevIn [0x0001] |>.placeCode [0x7231])
    (fun t => (t.pc, t.reg 1, t.busLog)) (0x0102, 0x0001, [.ioRead 0x03 0x0001]) := by decide

theorem test_outReg_V243 : answers
    (at100 |>.setReg 1 0xBEEF |>.setReg 2 0xFF07 |>.placeCode [0x7321])
    (fun t => (t.pc, t.busLog)) (0x0102, [.ioWrite 0x07 0xBEEF]) := by decide

theorem test_outLit_V245 : answers
    (at100 |>.setReg 1 0x0001 |>.placeCode [0x74F1, 0x0080])
    (fun t => (t.pc, t.busLog)) (0x0104, [.ioWrite 0x80 0x0001]) := by decide

theorem test_ljmp_V195 : answers
    (at100 |>.setReg 3 0xABCD |>.setReg 2 0x0010 |>.placeCode [0x7C23])
    (fun t => (t.pc, t.cs)) (0x0010, 0xABCD) := by decide

theorem test_lcall_V197 : answers
    (at100 |>.setCs 0x0005 |>.setReg 3 0x0001 |>.setReg 15 0x2000 |>.placeCode [0x7DF3])
    (fun t => (t.pc, t.reg 15, t.cs, t.mem.read 0x01FFC, t.mem.read 0x01FFD, t.mem.read 0x01FFE,
    t.mem.read 0x01FFF)) (0x2000, 0x1FFC, 0x0001, 0x02, 0x01, 0x05, 0x00) := by decide

theorem test_jmpAbs_V181 : answers
    (at100 |>.setCs 0x0003 |>.setReg 5 0x0001 |>.placeCode [0x7EF5, 0xFFFE])
    (fun t => (t.pc, t.cs)) (0xFFFF, 0x0003) := by decide

theorem test_jmpAbs_V182 : answers
    (at100 |>.setReg 15 0x0400 |>.placeCode [0x7E2F])
    (fun t => (t.pc)) (0x0402) := by decide

theorem test_callAbs_V183 : answers
    (at100 |>.setReg 5 0x0300 |>.setReg 15 0x1000 |>.placeCode [0x7FF5, 0x0010])
    (fun t => (t.pc, t.reg 15, t.mem.read 0x00FFE, t.mem.read 0x00FFF)) (0x0310, 0x0FFE, 0x04,
    0x01) := by decide

theorem test_callAbs_V184 : answers
    (at100 |>.setReg 15 0x1000 |>.placeCode [0x7F0F])
    (fun t => (t.pc, t.reg 15, t.mem.read 0x00FFE, t.mem.read 0x00FFF)) (0x1000, 0x0FFE, 0x02,
    0x01) := by decide

theorem test_not_V70 : answers
    (at100 |>.setFlags 0x0003 |>.setReg 5 0x0000 |>.placeCode [0x2005])
    (fun t => (t.pc, t.reg 5, t.flags)) (0x0102, 0xFFFF, 0x0003) := by decide

theorem test_neg_V71 : answers
    (at100 |>.setFlags 0x0200 |>.setReg 5 0x8000 |>.placeCode [0x2015])
    (fun t => (t.pc, t.reg 5, t.flags)) (0x0102, 0x8000, 0x0200) := by decide

theorem test_neg_V73 : answers
    (at100 |>.setReg 15 0x0002 |>.placeCode [0x201F])
    (fun t => (t.pc, t.reg 15)) (0x0102, 0xFFFE) := by decide

theorem test_xchg_V168 : answers
    (at100 |>.setFlags 0x0003 |>.setReg 3 0x00FF |>.placeCode [0x2023])
    (fun t => (t.pc, t.reg 3, t.flags)) (0x0102, 0xFF00, 0x0003) := by decide

theorem test_sxtbd_V169 : answers
    (at100 |>.setReg 3 0xFF7F |>.placeCode [0x2033])
    (fun t => (t.pc, t.reg 3)) (0x0102, 0x007F) := by decide

theorem test_sxtbd_V170 : answers
    (at100 |>.setReg 3 0x00FF |>.placeCode [0x2033])
    (fun t => (t.pc, t.reg 3)) (0x0102, 0xFFFF) := by decide

theorem test_push_V210 : answers
    (at100 |>.setSs 0x0002 |>.setReg 15 0x0000 |>.setReg 3 0xABCD |>.placeCode [0x2043])
    (fun t => (t.pc, t.reg 15, t.mem.read 0x2FFFE, t.mem.read 0x2FFFF)) (0x0102, 0xFFFE, 0xCD,
    0xAB) := by decide

theorem test_push_V212 : answers
    (at100 |>.setReg 15 0x0100 |>.setReg 3 0x1234
    |>.withCfg { Config.standard with stackByteOrder := .bigEndian } |>.placeCode [0x2043])
    (fun t => (t.pc, t.reg 15, t.mem.read 0x000FE, t.mem.read 0x000FF)) (0x0102, 0x00FE, 0x12,
    0x34) := by decide

theorem test_pop_V213 : answers
    (at100 |>.setSs 0x0002 |>.setReg 15 0xFFFE |>.placeByte 0x2FFFE 0xCD |>.placeByte 0x2FFFF 0xAB
    |>.placeCode [0x2054])
    (fun t => (t.pc, t.reg 4, t.reg 15)) (0x0102, 0xABCD, 0x0000) := by decide

theorem test_pop_V214 : answers
    (at100 |>.setReg 15 0x0FFE |>.placeByte 0x00FFE 0x00 |>.placeByte 0x00FFF 0x20
    |>.placeCode [0x205F])
    (fun t => (t.pc, t.reg 15)) (0x0102, 0x2000) := by decide

theorem test_getpc_V224 : answers
    (at100 |>.setPc 0xFFFE |>.setCs 0x0001 |>.setReg 3 0x5555 |>.placeCode [0x2063])
    (fun t => (t.pc, t.reg 3, t.cs)) (0x0000, 0x0000, 0x0002) := by decide

theorem test_setflags_V225 : answers
    (at100 |>.setReg 2 0x0703 |>.placeCode [0x2072])
    (fun t => (t.pc, t.flags)) (0x0102, 0x0703) := by decide

theorem test_setflags_V226 : answers
    (at100 |>.setReg 2 0xFFFF |>.placeCode [0x2072])
    (fun t => (t.pc, t.flags)) (0x0102, 0xFFFF) := by decide

theorem test_getflags_V228 : answers
    (at100 |>.setFlags 0x0705 |>.placeCode [0x2080])
    (fun t => (t.pc, t.reg 0)) (0x0102, 0x0705) := by decide

theorem test_setyReg_V229 : answers
    (at100 |>.setReg 4 0xBEEF |>.placeCode [0x2094])
    (fun t => (t.pc, t.y)) (0x0102, 0xBEEF) := by decide

theorem test_setyLit_V231 : answers
    (at100 |>.placeCode [0x20AF, 0xFFFF])
    (fun t => (t.pc, t.y)) (0x0104, 0xFFFF) := by decide

theorem test_gety_V233 : answers
    (at100 |>.setY 0x00AB |>.placeCode [0x20B6])
    (fun t => (t.pc, t.reg 6)) (0x0102, 0x00AB) := by decide

theorem test_setcsReg_V251 : answers
    (at100 |>.setReg 4 0xFFF3 |>.placeCode [0x2114])
    (fun t => (t.pc, t.cs)) (0x0102, 0xFFF3) := by decide

theorem test_setcsLit_V250 : answers
    (at100 |>.placeCode [0x2122])
    (fun t => (t.pc, t.cs)) (0x0102, 0x0002) := by decide

theorem test_getcs_V252 : answers
    (at100 |>.setCs 0x0007 |>.placeCode [0x2135])
    (fun t => (t.pc, t.reg 5)) (0x0102, 0x0007) := by decide

theorem test_setdsReg_V253 : answers
    (at100 |>.setReg 3 0x000A |>.placeCode [0x2143])
    (fun t => (t.pc, t.ds)) (0x0102, 0x000A) := by decide

theorem test_setdsLit_V254 : answers
    (at100 |>.placeCode [0x215F, 0x0012])
    (fun t => (t.pc, t.ds)) (0x0104, 0x0012) := by decide

theorem test_getds_V255 : answers
    (at100 |>.setDs 0x0012 |>.placeCode [0x2160])
    (fun t => (t.pc, t.reg 0)) (0x0102, 0x0012) := by decide

theorem test_setssReg_V257 : answers
    (at100 |>.setReg 2 0x000F |>.placeCode [0x2172])
    (fun t => (t.pc, t.ss)) (0x0102, 0x000F) := by decide

theorem test_setssLit_V256 : answers
    (at100 |>.placeCode [0x2184])
    (fun t => (t.pc, t.ss)) (0x0102, 0x0004) := by decide

theorem test_getss_V258 : answers
    (at100 |>.setSs 0x0004 |>.placeCode [0x2191])
    (fun t => (t.pc, t.reg 1)) (0x0102, 0x0004) := by decide

theorem test_setisReg_V259 : answers
    (at100 |>.setReg 7 0x0003 |>.placeCode [0x21A7])
    (fun t => (t.pc, t.is)) (0x0102, 0x0003) := by decide

theorem test_setisLit_V260 : answers
    (at100 |>.setIs 0x0009 |>.placeCode [0x21B0])
    (fun t => (t.pc, t.is)) (0x0102, 0x0000) := by decide

theorem test_getis_V261 : answers
    (at100 |>.setIs 0x0003 |>.placeCode [0x21C9])
    (fun t => (t.pc, t.reg 9)) (0x0102, 0x0003) := by decide

theorem test_jmpRel_V190 : answers
    (at100 |>.setPc 0xFFFE |>.setCs 0x000F |>.placeCode [0x1002])
    (fun t => (t.pc, t.cs)) (0x0002, 0x0010) := by decide

theorem test_jmpRel_V192 : answers
    (at100 |>.setPc 0x0002 |>.setCs 0x0000 |>.placeCode [0x11F8])
    (fun t => (t.pc, t.cs)) (0xFFFC, 0xFFFF) := by decide

theorem test_callRel_V193 : answers
    (at100 |>.setPc 0x0002 |>.setCs 0x0002 |>.setReg 15 0x1000 |>.placeCode [0x13F8])
    (fun t => (t.pc, t.reg 15, t.cs, t.mem.read 0x00FFE, t.mem.read 0x00FFF)) (0xFFFC, 0x0FFE,
    0x0002, 0x04, 0x00) := by decide

theorem test_callRel_V194 : answers
    (at100 |>.setPc 0xFFF0 |>.setCs 0x0002 |>.setReg 15 0x1000 |>.placeCode [0x1220])
    (fun t => (t.pc, t.reg 15, t.cs, t.mem.read 0x00FFE, t.mem.read 0x00FFF)) (0x0012, 0x0FFE,
    0x0002, 0xF2, 0xFF) := by decide

theorem test_nop_V220 : answers
    (at100 |>.setFlags 0x0007 |>.placeCode [0x0000])
    (fun t => (t.pc, t.flags)) (0x0102, 0x0007) := by decide

theorem test_sleep_V221 : answers
    (at100 |>.placeCode [0x0001])
    (fun t => (t.pc, t.asleep)) (0x0102, true) := by decide

theorem test_ret_V198 : answers
    (at100 |>.setReg 15 0x0FFE |>.placeByte 0x00FFE 0x34 |>.placeByte 0x00FFF 0x12
    |>.placeCode [0x0002])
    (fun t => (t.pc, t.reg 15)) (0x1234, 0x1000) := by decide

theorem test_ret_V199 : answers
    (at100 |>.setReg 15 0x0FFE |>.placeByte 0x00FFE 0x12 |>.placeByte 0x00FFF 0x34
    |>.withCfg { Config.standard with stackByteOrder := .bigEndian } |>.placeCode [0x0002])
    (fun t => (t.pc, t.reg 15)) (0x1234, 0x1000) := by decide

theorem test_lret_V200 : answers
    (at100 |>.setReg 15 0x0FFC |>.placeByte 0x00FFC 0x00 |>.placeByte 0x00FFD 0x80
    |>.placeByte 0x00FFE 0x02 |>.placeByte 0x00FFF 0x00 |>.placeCode [0x0003])
    (fun t => (t.pc, t.reg 15, t.cs)) (0x8000, 0x1000, 0x0002) := by decide

theorem test_bovf_V140 : answers
    (at100 |>.setFlags 0x0002 |>.placeCode [0x0008, 0x6215, 0x6216, 0x6217])
    (fun t => (t.pc, t.flags)) (0x0102, 0x0002) := by decide

theorem test_bovf_V141 : answers
    (at100 |>.setFlags 0x0001 |>.placeCode [0x0008, 0x6215, 0x6216, 0x6217])
    (fun t => (t.pc, t.flags)) (0x0104, 0x0001) := by decide

theorem test_bocf_V142 : answers
    (at100 |>.setFlags 0x0001 |>.placeCode [0x0009, 0x6215, 0x6216, 0x6217])
    (fun t => (t.pc, t.flags)) (0x0102, 0x0001) := by decide

theorem test_bocf_V143 : answers
    (at100 |>.setFlags 0x0002 |>.placeCode [0x0009, 0x6215, 0x6216, 0x6217])
    (fun t => (t.pc, t.flags)) (0x0104, 0x0002) := by decide

/-! BEQ with two registers, V120 and V121, first step. -/

theorem test_beqReg_V120 : answers
    (at100 |>.setReg 1 5 |>.setReg 2 5 |>.placeCode [0x6321, 0x6215])
    (fun t => (t.pc, t.reg 5)) (0x0102, 0) := by decide

theorem test_beqReg_V121 : answers
    (at100 |>.setReg 1 5 |>.setReg 2 6 |>.placeCode [0x6321, 0x6215])
    (fun t => (t.pc, t.reg 5)) (0x0104, 0) := by decide

/-- V145: a failed test passes over two conditionals and a two-word instruction at once. -/
theorem test_skip_chain_V145 : answers
    (at100 |>.placeCode [0x6411, 0x6422, 0x0009, 0x62F5, 0xAAAA, 0x6216])
    (fun t => (t.pc, t.reg 5)) (0x010A, 0) := by decide

/-- R161, R262: a skip that has passed as many instructions as its step passes is on its way, and the
step after goes on with it and has the one boundary. -/
theorem test_long_skip_goes_on :
    let s := at100 |>.setIa 0x4000 |>.setReg 15 0x1000 |>.setHwInt [some 0x0200]
      |>.placeCode [0x6411, 0x6422, 0x62F5, 0xAAAA]
    (match State.skipChain 1 s with
      | .next t => answers t (fun u => (u.pc, u.reg 1, u.mem.read 0x0FFA, u.skipping, u.hwInt))
          (0x4000, 0x0200, 0x08, false, []) && t.skipping && decide (t.pc = 0x0102)
      | _ => false) = true := by decide

/-! The interrupt instructions: T1, T2, T5 and the examples of R221 and R222. -/

theorem test_intLit_T1 : answers
    (at100 |>.setIa 0x4000 |>.setReg 15 0x1000 |>.setCs 1 |>.setReg 1 0xAAAA |>.placeCode [0x20D5])
    (fun t => ((t.pc, t.cs, t.reg 1, t.reg 15), (t.flags, t.iack),
      (List.range 6).map (fun k => t.mem.read (0x0FFA + k))))
    ((0x4000, 0, 5, 0x0FFA), (0x0008, true), [0x02, 0x01, 0x01, 0x00, 0xAA, 0xAA]) := by decide

theorem test_intReg_T2 : answers
    (at100 |>.setReg 15 0x1000 |>.setReg 2 0x42 |>.setReg 1 0xAAAA |>.placeCode [0x20C2])
    (fun t => (t.pc, t.reg 1, t.reg 15, t.flags)) (0x0102, 0xAAAA, 0x1000, 0) := by decide

theorem test_rfi_T5 : answers
    (at100 |>.setReg 15 0x0FFA |>.setFlags 0x0009 |>.setIack true |>.placeByte 0x0FFA 0x02
    |>.placeByte 0x0FFB 0x01 |>.placeByte 0x0FFC 0x03 |>.placeByte 0x0FFD 0x00
    |>.placeByte 0x0FFE 0xCD |>.placeByte 0x0FFF 0xAB |>.placeCode [0x0004])
    (fun t => (t.pc, t.cs, t.reg 1, t.reg 15, t.flags, t.iack))
    (0x0102, 3, 0xABCD, 0x1000, 0x0001, false) := by decide

theorem test_setiaReg_R221 : answers (at100 |>.setReg 2 0x4000 |>.placeCode [0x20E2])
    (fun t => (t.pc, t.ia)) (0x0102, 0x4000) := by decide

theorem test_setiaLit_R221 : answers (at100 |>.placeCode [0x20FF, 0x4000])
    (fun t => (t.pc, t.ia)) (0x0104, 0x4000) := by decide

theorem test_getia_R222 : answers (at100 |>.setIa 0x4000 |>.placeCode [0x2107])
    (fun t => (t.pc, t.reg 7)) (0x0102, 0x4000) := by decide

/-! ## Interrupts at the boundary -/

/-- A state whose handler is at 0:4000 and whose stack is at 0:1000. -/
def ready : State := at100 |>.setIa 0x4000 |>.setReg 15 0x1000

theorem test_division_error_T6 : answers
    (ready |>.setFlags 0x0400 |>.setReg 3 7 |>.placeCode [0x5643])
    (fun t => (t.pc, t.reg 1, t.reg 15, t.flags, t.iack))
    (0x4000, 0, 0x0FFA, 0x040C, true) := by decide

theorem test_overflow_T7 : answers
    (ready |>.setFlags 0x0200 |>.setReg 2 0x7FFF |>.placeCode [0x4112])
    (fun t => (t.pc, t.reg 1, t.reg 2, t.reg 15, t.flags))
    (0x4000, 4, 0x8000, 0x0FFA, 0x020A) := by decide

theorem test_single_step_T9 : answers (ready |>.setFlags 0x0100 |>.placeCode [0x0000])
    (fun t => (t.pc, t.reg 1, t.reg 15, t.flags, t.mem.read 0x0FFA))
    (0x4000, 1, 0x0FFA, 0x0108, 0x02) := by decide

theorem test_setflags_does_not_step_T10 :
    answers (ready |>.setReg 2 0x0100 |>.placeCode [0x2072, 0x0000])
      (fun t => (t.pc, t.flags)) (0x0102, 0x0100) := by decide

theorem test_request_after_rfi_T12 : answers
    (ready |>.setReg 15 0x0FFA |>.setFlags 0x0008 |>.setIack true |>.setPc 0x4002
    |>.setHwInt [some 0x0123] |>.placeByte 0x0FFA 0x02 |>.placeByte 0x0FFB 0x01
    |>.placeByte 0x0FFC 0x00 |>.placeByte 0x0FFD 0x00 |>.placeByte 0x0FFE 0x55
    |>.placeByte 0x0FFF 0x00 |>.placeCode [0x0004])
    (fun t => ((t.pc, t.reg 1, t.reg 15, t.flags, t.iack), t.mem.read 0x0FFA, t.mem.read 0x0FFE))
    ((0x4000, 0x0123, 0x0FFA, 0x0008, true), 0x02, 0x55) := by decide

theorem test_wake_T13 : answers
    (ready |>.setPc 0x0102 |>.setAsleep true |>.setHwInt [some 0x0200])
    (fun t => (t.pc, t.reg 1, t.asleep, t.mem.read 0x0FFA)) (0x4000, 0x0200, false, 0x02) := by decide

theorem test_no_wake_T14 : answers
    (at100 |>.setPc 0x0102 |>.setAsleep true |>.setHwInt [some 0x0200])
    (fun t => (t.pc, t.asleep, t.hwInt)) (0x0102, true, []) := by decide

theorem test_own_interrupt_first_T15 : answers
    (ready |>.setFlags 0x0100 |>.setHwInt [some 0x0200] |>.placeCode [0x20D5])
    (fun t => (t.pc, t.reg 1, t.reg 15)) (0x4000, 5, 0x0FFA) := by decide

theorem test_single_step_before_line_T16 : answers
    (ready |>.setFlags 0x0100 |>.setHwInt [some 0x0200] |>.placeCode [0x0000])
    (fun t => (t.pc, t.reg 1, t.reg 15)) (0x4000, 1, 0x0FFA) := by decide

theorem test_line_after_whole_skip_T17 : answers
    (ready |>.setHwInt [some 0x0200] |>.placeCode [0x6411, 0x6422, 0x62F5, 0xAAAA, 0x6216])
    (fun t => (t.pc, t.reg 1, t.mem.read 0x0FFA)) (0x4000, 0x0200, 0x08) := by decide

theorem test_division_error_in_handler_T18 : answers
    (ready |>.setFlags 0x0408 |>.setReg 3 7 |>.placeCode [0x5E43])
    (fun t => (t.pc, t.y, t.flags)) (0x0102, 0, 0x040C) := by decide

theorem test_sleep_with_single_step_T19 : answers (ready |>.setFlags 0x0100 |>.placeCode [0x0001])
    (fun t => (t.pc, t.reg 1, t.asleep)) (0x4000, 1, false) := by decide

/-! ## The initial memory -/

/-- R291: the image's bytes are known, the byte after them is not. -/
theorem test_image_and_unknown_bytes :
    let s := State.initial Config.standard [(1, 0x34), (0, 0x12), (0xFFFFF, 0xAB)] [] []
    s.mem = [(0, 0x12), (1, 0x34), (0xFFFFF, 0xAB)] ∧ s.mem.read 0xFFFFF = 0xAB ∧
    s.mem.lookup 2 = none := by decide

/-- R45: RAM that nothing has written is known once a store has written it. -/
theorem test_store_makes_bytes_known : answers
    (at100 |>.setReg 1 0x4000 |>.placeCode [0xC103])
    (fun t => (t.mem.lookup 0x4000, t.mem.lookup 0x4001, t.mem.lookup 0x4002))
    (some 0, some 0, none) := by decide

/-! ## Parameters and kinds of location -/

/-- A map with a ROM, a device and a hole (MEMMAP of R8). -/
def mapped : Config :=
  { Config.standard with memMap := [⟨0x10000, 0x100, .rom⟩, ⟨0x20000, 0x100, .device 3⟩,
      ⟨0x30000, 0x100, .absent⟩] }

/-- R46: a store to ROM is ignored. -/
theorem test_rom_ignores_store : answers
    (at100 |>.withCfg mapped |>.setDs 1 |>.setReg 3 0x1234 |>.placeByte 0x10000 0x66
    |>.placeByte 0x10001 0x77 |>.placeCode [0xC003])
    (fun t => (t.mem.read 0x10000, t.mem.read 0x10001)) (0x66, 0x77) := by decide

/-- R45: a word read from a device is two reads, at ascending addresses. -/
theorem test_device_word_read : answers
    (at100 |>.withCfg mapped |>.setDs 2 |>.setDevIn [0x0012, 0x0034] |>.placeCode [0x8003])
    (fun t => (t.reg 3, t.busLog, t.devIn))
    (0x1234, [.devRead 3 0x20001 0x34, .devRead 3 0x20000 0x12], []) := by decide

/-- R46: a byte stored to a device reaches it. -/
theorem test_device_byte_write : answers
    (at100 |>.withCfg mapped |>.setDs 2 |>.setReg 3 0xBEEF |>.placeCode [0xE053])
    (fun t => (t.busLog, t.mem.lookup 0x20005)) ([.devWrite 3 0x20005 0xEF], none) := by decide

/-- R46: a word stored to a device reaches it as two bytes, at ascending addresses. -/
theorem test_device_word_write : answers
    (at100 |>.withCfg mapped |>.setDs 2 |>.setReg 3 0xBEEF |>.placeCode [0xC053])
    (fun t => t.busLog) [.devWrite 3 0x20006 0xEF, .devWrite 3 0x20005 0xBE] := by decide

/-- R45: a read of a hole goes on. -/
theorem test_absent_read_goes_on : answers
    (at100 |>.withCfg mapped |>.setDs 3 |>.setReg 3 0xAB00 |>.placeCode [0xA003])
    (fun t => (t.pc, t.draws)) (0x0102, 1) := by decide

/-- R102 with LOADB_UPPER = zero. -/
theorem test_loadb_upper_zero : answers
    (at100 |>.withCfg { Config.standard with loadbUpper := .zero } |>.setReg 3 0xFFFF
    |>.placeByte 0x0300 0x7F |>.setReg 1 0x0300 |>.placeCode [0xA103])
    (fun t => t.reg 3) 0x007F := by decide

/-- R18 with RESERVED_FLAGS = refuse. -/
theorem test_reserved_flags_refused :
    refuses (at100 |>.withCfg { Config.standard with reservedFlags := .refuse } |>.setReg 2 0x0010
      |>.placeCode [0x2072]) .reservedFlags ∧
    answers (at100 |>.withCfg { Config.standard with reservedFlags := .refuse } |>.setReg 2 0x070F
      |>.placeCode [0x2072]) (fun t => t.flags) 0x070F := by decide

/-- An access past the end of an offset stays in its segment, and a segment's upper bits have no
effect (R41, R45). -/
theorem test_physical_addresses :
    phys 0x0012 0x02FF = 0x202FF ∧ phys 0xFFFF 0xFFFF = 0xFFFFF ∧ phys 0 0 = 0 := by decide

/-- Rows of the table of R294. -/
theorem test_cycles : instrCycles .nop = 1 ∧ instrCycles (.loadLit 1 (.ext 4) 3) = 5 ∧
    instrCycles (.divReg 1 2) = 120 ∧ instrCycles (.callRel 0) = 4 ∧ skipCycles 3 = 3 := by decide

/-! ## Witnesses: states and operands that meet the hypotheses of the statements -/

/-- The witness state: registers at boundary values, all memory RAM, a NOP at PC. -/
def wit : State := at100 |>.setReg 1 0xFFFF |>.setReg 2 0x0001 |>.setReg 3 0x8000 |>.setReg 5 0x7FFF
  |>.setReg 15 0x0002 |>.placeCode [0x0000]

theorem witness_DecodeInvertsEncode : (Instr.loadLit 15 (.short 14) 0).wellFormed = true ∧
    (Instr.addLit (.ext 0xFFFF) 15).wellFormed = true := by decide

theorem witness_EncodeInvertsDecode :
    decode [0x41, 0xF1, 0x12, 0x34, 0x00] = .ok (.addLit (.ext 0x1234) 1, [0x00]) ∧
    decode [0x00, 0x00] = .ok (.nop, []) := by decide

theorem witness_ReservedWordsAreExactlyRefused_words :
    NoInstruction 0x7500 ∧ NoInstruction 0x7BFF ∧ NoInstruction 0x21D0 ∧ NoInstruction 0x3FFF ∧
    NoInstruction 0x1400 ∧ NoInstruction 0x1FFF ∧ NoInstruction 0x0005 ∧ NoInstruction 0x0FFF ∧
    ¬NoInstruction 0x74FF ∧ ¬NoInstruction 0x7C00 ∧ ¬NoInstruction 0x21CF ∧ ¬NoInstruction 0x4000 ∧
    ¬NoInstruction 0x13FF ∧ ¬NoInstruction 0x2000 ∧ ¬NoInstruction 0x0009 := by
  refine ⟨?_, ?_, ?_, ?_, ?_, ?_, ?_, ?_, ?_, ?_, ?_, ?_, ?_, ?_, ?_⟩ <;>
    (unfold NoInstruction; decide)

theorem witness_ReservedWordsAreExactlyRefused_states :
    (wit.placeCode [0x7500]).asleep = false ∧ (wit.placeCode [0x7500]).pc ≠ 0xFFFF#16 ∧
    NoInstruction ((wit.placeCode [0x7500]).readWord 0 0x0100).1 := by
  refine ⟨rfl, by decide, ?_⟩
  unfold NoInstruction; decide

/-- A failed BOCF in front of BOVF in front of the word 0x7BFF. -/
theorem witness_ReservedWordsAreExactlyRefused_skip :
    let s := wit.placeCode [0x0008, 0x7BFF]
    TestOf s .bocf (s.flag .cf = true) ∧ ¬(s.flag .cf = true) ∧ 1 < 2 ^ 20 ∧
    PassesConditionals 1 s s.advancePc ∧ s.advancePc.pc ≠ 0xFFFF#16 ∧
    NoInstruction (s.advancePc.readWord s.advancePc.cs s.advancePc.pc).1 := by
  refine ⟨.bocf, by decide, by decide,
    .more 0 _ _ _ .bovf ⟨by decide, by decide, fun _ => rfl, fun h => absurd rfl h⟩ rfl (.none _),
    by decide, ?_⟩
  unfold NoInstruction; decide

/-- The same chain in a skip on its way: BOVF, then the word 0x7BFF. -/
theorem witness_ReservedWordsAreExactlyRefused_resumed :
    let s := (wit.placeCode [0x0008, 0x7BFF]).setSkipping true
    let u := (s.setSkipping false).advancePc
    s.asleep = false ∧ s.skipping = true ∧ PassesConditionals 1 (s.setSkipping false) u ∧
    u.pc ≠ 0xFFFF#16 ∧ NoInstruction (u.readWord u.cs u.pc).1 := by
  refine ⟨rfl, rfl,
    .more 0 _ _ _ .bovf ⟨by decide, by decide, fun _ => rfl, fun h => absurd rfl h⟩ rfl (.none _),
    by decide, ?_⟩
  unfold NoInstruction; decide

theorem witness_ConditionalWordsAreExactlyThese :
    decodeWords 0x6300 0 = .ok (.beqReg 0 0) ∧ decodeWords 0x70FF 0 = .ok (.bclear 15 15) ∧
    decodeWords 0x62F0 1 = .ok (.set (.ext 1) 0) ∧ decodeWords 0x7100 0 = .ok (.inpReg 0 0) ∧
    decodeWords 0x0008 0 = .ok .bovf ∧ decodeWords 0x0009 0 = .ok .bocf := by decide

theorem witness_FirstWordTellsLength :
    decodeWords 0x41F1 9 = .ok (.addLit (.ext 9) 1) ∧ decodeWords 0x41E1 9 = .ok (.addLit (.short 14) 1) ∧
    decodeWords 0x90F2 9 = .ok (.loadReg 0 15 2) ∧ decodeWords 0x20AF 9 = .ok (.setyLit (.ext 9)) ∧
    decodeWords 0x209F 9 = .ok (.setyReg 15) := by decide

theorem witness_ReadAnswersByKind :
    wit.kind 0xFFFFF = .ram ∧ (wit.withCfg mapped).kind 0x10000 = .rom ∧
    (wit.withCfg mapped).kind 0x100FF = .rom ∧ (wit.withCfg mapped).kind 0x10100 = .ram ∧
    (wit.withCfg mapped).kind 0x20000 = .device 3 ∧ (wit.withCfg mapped).kind 0x30000 = .absent ∧
    wit.holdsWord 0x000F 0xFFFF ∧ (wit.withCfg mapped).holdsWord 1 0x00FF :=
  ⟨rfl, rfl, rfl, rfl, rfl, rfl, ⟨.inl rfl, .inl rfl⟩, ⟨.inr rfl, .inl rfl⟩⟩

theorem witness_WriteGoesByKind :
    wit.kind 0 = .ram ∧ (wit.withCfg mapped).kind 0x100FF = .rom ∧
    (wit.withCfg mapped).kind 0x300FF = .absent ∧ (wit.withCfg mapped).kind 0x200FF = .device 3 ∧
    wit.ramWord 0x000F 0xFFFF := ⟨rfl, rfl, rfl, rfl, rfl, rfl⟩

/-- SP = 2, 1 and 0: the pushed word lies at the bottom of the segment, round its end and at its
top. -/
theorem witness_PushPlacesBothBytes :
    wit.ramWord wit.ss (wit.sp - 2#16) ∧ wit.cfg.stackByteOrder = .asWritten ∧
    (wit.setReg 15 1).ramWord 0 ((wit.setReg 15 1).sp - 2#16) ∧
    (wit.withCfg { mapped with stackByteOrder := .bigEndian }).ramWord 0 (wit.sp - 2#16) ∧
    (wit.withCfg { mapped with stackByteOrder := .bigEndian }).cfg.stackByteOrder = .bigEndian :=
  ⟨⟨rfl, rfl⟩, rfl, ⟨rfl, rfl⟩, ⟨rfl, rfl⟩, rfl⟩

theorem witness_PopReturnsWhatPushWrote :
    (wit.setReg 15 0).ramWord 0 ((wit.setReg 15 0).sp - 2#16) := ⟨rfl, rfl⟩

theorem witness_FetchAdvancesOrIsRefused :
    (wit.setPc 0xFFFF).pc = 0xFFFF#16 ∧ (wit.setPc 0xFFFF).asleep = false ∧
    (wit.setPc 0xFFFE).pc ≠ 0xFFFF#16 ∧ (wit.setPc 0xFFFE).holdsWord 0 0xFFFE ∧
    wit.pc ≠ 0xFFFF#16 ∧ wit.holdsWord wit.cs wit.pc :=
  ⟨rfl, rfl, by decide, ⟨.inl rfl, .inl rfl⟩, by decide, ⟨.inl rfl, .inl rfl⟩⟩

/-- An instruction of one word at 0:0100, which completes. -/
theorem witness_StepRunsDecodedInstruction_one :
    let s := wit.placeCode [0x6051]
    s.asleep = false ∧ s.skipping = false ∧ (Instr.swp 5 1).wellFormed = true ∧
    s.pc ≠ 0xFFFF#16 ∧ s.holdsWord s.cs s.pc ∧
    (encode (.swp 5 1))[0]? = some (s.peekWord s.cs s.pc) ∧ (Instr.swp 5 1).words = 1 ∧
    (∃ t, exec (.swp 5 1) s.advancePc = .next t) ∧ ¬(Instr.swp 5 1).words = 2 :=
  ⟨rfl, rfl, rfl, by decide, ⟨.inl rfl, .inl rfl⟩, by decide, rfl, ⟨_, rfl⟩, by decide⟩

/-- An instruction of two words whose extension word is the first of the next segment. -/
theorem witness_StepRunsDecodedInstruction_two :
    let s := (wit.setPc 0xFFFE).placeCode [0x62F5, 0xABCD]
    s.asleep = false ∧ s.skipping = false ∧ (Instr.set (.ext 0xABCD) 5).wellFormed = true ∧
    s.pc ≠ 0xFFFF#16 ∧
    s.holdsWord s.cs s.pc ∧
    (encode (.set (.ext 0xABCD) 5))[0]? = some (s.peekWord s.cs s.pc) ∧
    ¬(Instr.set (.ext 0xABCD) 5).words = 1 ∧ (Instr.set (.ext 0xABCD) 5).words = 2 ∧
    s.advancePc.pc ≠ 0xFFFF#16 ∧ s.holdsWord s.advancePc.cs s.advancePc.pc ∧
    (encode (.set (.ext 0xABCD) 5))[1]? = some (s.peekWord s.advancePc.cs s.advancePc.pc) ∧
    ∃ t, exec (.set (.ext 0xABCD) 5) s.advancePc.advancePc = .next t :=
  ⟨rfl, rfl, rfl, by decide, ⟨.inl rfl, .inl rfl⟩, by decide, by decide, rfl, by decide,
    ⟨.inl rfl, .inl rfl⟩, by decide, ⟨_, rfl⟩⟩

theorem witness_SleepingCoreWakesOnlyOnTakenInterrupt :
    let s := (wit.setAsleep true).setIa 1
    s.asleep = true ∧ s.hwInt = [] ∧ (s.setHwInt [none]).hwInt = none :: [] ∧
    (s.setHwInt [some 7]).hwInt = some 7 :: [] ∧ (s.setHwInt [some 7]).ia ≠ 0#16 ∧
    (s.setHwInt [some 7]).flag .intf = false ∧ (wit.setAsleep true).ia = 0#16 ∧
    (s.setFlags 8).flag .intf = true := by decide

/-- SP = 2: the frame goes round the end of the stack segment. -/
theorem witness_EnterSavesFrameAndVectors : wit.ramWord wit.ss (wit.sp - 2#16) ∧
    wit.ramWord wit.ss (wit.sp - 4#16) ∧ wit.ramWord wit.ss (wit.sp - 6#16) :=
  ⟨⟨rfl, rfl⟩, ⟨rfl, rfl⟩, ⟨rfl, rfl⟩⟩

theorem witness_RequestsAreTakenIffGateIsOpen :
    (wit.setIa 1).ia ≠ 0#16 ∧ (wit.setIa 1).flag .intf = false ∧ wit.ia = 0#16 ∧
    ((wit.setIa 1).setFlags 8).flag .intf = true := by decide

theorem witness_BoundaryTakesAtMostOne :
    let s := (wit.setIa 1).setHwInt [some 7]
    s.ia ≠ 0#16 ∧ s.flag .intf = false ∧ s.hwInt = some 7 :: [] ∧
    (s.setHwInt [none]).hwInt = none :: [] ∧ (s.setHwInt []).hwInt = [] := by decide

/-- A NOP with TSS set and the gate open, and one with TSS clear. -/
theorem witness_SingleStepFollowsWholeInstruction :
    let s := (wit.setIa 1).setFlags 0x0100
    s.asleep = false ∧ s.skipping = false ∧ s.fetchInstr = .ok (.nop, s.advancePc) ∧
    exec .nop s.advancePc = .next s.advancePc ∧ s.advancePc.skipping = false ∧ s.flag .tss = true ∧ s.flag .intf = false ∧
    s.advancePc.ia ≠ 0#16 ∧ s.advancePc.flag .intf = false ∧ wit.flag .tss = false ∧
    wit.fetchInstr = .ok (.nop, wit.advancePc) ∧ wit.advancePc.hwInt = [] :=
  ⟨rfl, rfl, by decide, rfl, rfl, by decide, by decide, by decide, by decide, by decide, by decide, by decide⟩

theorem witness_RfiRestoresWhatEntrySaved : wit.asleep = false ∧
    wit.ramWord wit.ss (wit.sp - 2#16) ∧ wit.ramWord wit.ss (wit.sp - 4#16) ∧
    wit.ramWord wit.ss (wit.sp - 6#16) := ⟨rfl, ⟨rfl, rfl⟩, ⟨rfl, rfl⟩, ⟨rfl, rfl⟩⟩

theorem witness_RfiPopsPcCsAndR1 :
    let s := wit.setReg 15 0xFFFD
    s.holdsWord s.ss s.sp ∧ s.holdsWord s.ss (s.sp + 2#16) ∧ s.holdsWord s.ss (s.sp + 4#16) :=
  ⟨⟨.inl rfl, .inl rfl⟩, ⟨.inl rfl, .inl rfl⟩, ⟨.inl rfl, .inl rfl⟩⟩

theorem witness_IntIsTakenOrDropped :
    OperandForm wit .intReg .intLit (.intReg 1) 0xFFFF ∧
    OperandForm wit .intReg .intLit (.intLit (.short 14)) 14 ∧
    (wit.setIa 1).ia ≠ 0#16 ∧ (wit.setIa 1).flag .intf = false ∧ wit.ia = 0#16 :=
  ⟨.inl ⟨1, rfl, by decide⟩, .inr ⟨.short 14, rfl, rfl⟩, by decide, by decide, rfl⟩

/-- Base 15 takes SS, base 13 takes DS; the sum of base and index goes round. -/
theorem witness_LoadReadsWordAtEffectiveAddress :
    OperandForm wit (fun r2 => .loadReg 15 r2 3) (fun l => .loadLit 15 l 3) (.loadReg 15 1 3) 0xFFFF ∧
    OperandForm wit (fun r2 => .loadReg 13 r2 3) (fun l => .loadLit 13 l 3)
      (.loadLit 13 (.ext 0xFFFF) 3) 0xFFFF ∧
    (1 : Word).toNat = ((wit.reg 15).toNat + (0xFFFF : Word).toNat) % 2 ^ 16 ∧
    (0xFFFF : Word).toNat = ((wit.reg 13).toNat + (0xFFFF : Word).toNat) % 2 ^ 16 ∧
    wit.ss = (if (15#4 : Reg) = 14#4 ∨ (15#4 : Reg) = 15#4 then wit.ss else wit.ds) ∧
    wit.ds = (if (13#4 : Reg) = 14#4 ∨ (13#4 : Reg) = 15#4 then wit.ss else wit.ds) ∧
    wit.holdsWord wit.ss 1 ∧ wit.holdsWord wit.ds 0xFFFF :=
  ⟨.inl ⟨1, rfl, by decide⟩, .inr ⟨.ext 0xFFFF, rfl, rfl⟩, by decide, by decide, rfl, rfl,
    ⟨.inl rfl, .inl rfl⟩, ⟨.inl rfl, .inl rfl⟩⟩

theorem witness_LoadByteReadsOneByte :
    OperandForm wit (fun r2 => .loadBReg 14 r2 3) (fun l => .loadBLit 14 l 3) (.loadBReg 14 1 3) 0xFFFF ∧
    OperandForm wit (fun r2 => .loadBReg 1 r2 3) (fun l => .loadBLit 1 l 3)
      (.loadBLit 1 (.short 1) 3) 1 ∧
    wit.ss = (if (14#4 : Reg) = 14#4 ∨ (14#4 : Reg) = 15#4 then wit.ss else wit.ds) ∧
    (0xFFFF : Word).toNat = ((wit.reg 14).toNat + (0xFFFF : Word).toNat) % 2 ^ 16 ∧
    wit.ds = (if (1#4 : Reg) = 14#4 ∨ (1#4 : Reg) = 15#4 then wit.ss else wit.ds) ∧
    (0 : Word).toNat = ((wit.reg 1).toNat + (1 : Word).toNat) % 2 ^ 16 ∧
    wit.cfg.loadbUpper = .preserve ∧
    (wit.withCfg { mapped with loadbUpper := .zero }).cfg.loadbUpper = .zero ∧
    wit.holdsByte wit.ds 0 :=
  ⟨.inl ⟨1, rfl, by decide⟩, .inr ⟨.short 1, rfl, rfl⟩, rfl, by decide, rfl, by decide, rfl, rfl,
    .inl rfl⟩

theorem witness_StoreWritesWordAtEffectiveAddress :
    OperandForm wit (fun r2 => .storeReg 1 r2 3) (fun l => .storeLit 1 l 3) (.storeReg 1 0 3) 0 ∧
    OperandForm wit (fun r2 => .storeReg 15 r2 3) (fun l => .storeLit 15 l 3)
      (.storeLit 15 (.short 0) 3) 0 ∧
    wit.ds = (if (1#4 : Reg) = 14#4 ∨ (1#4 : Reg) = 15#4 then wit.ss else wit.ds) ∧
    (0xFFFF : Word).toNat = ((wit.reg 1).toNat + (0 : Word).toNat) % 2 ^ 16 ∧
    wit.kind (phys wit.ds 0xFFFF) = .ram ∧ wit.kind (phys wit.ds (0xFFFF + 1#16)) = .ram ∧
    (wit.withCfg mapped).kind 0x10000 ≠ .ram ∧ wit.ramWord wit.ds 0xFFFF :=
  ⟨.inl ⟨0, rfl, by decide⟩, .inr ⟨.short 0, rfl, rfl⟩, rfl, by decide, rfl, rfl, by decide,
    ⟨rfl, rfl⟩⟩

theorem witness_StoreByteWritesOneByte :
    OperandForm wit (fun r2 => .storeBReg 1 r2 3) (fun l => .storeBLit 1 l 3) (.storeBReg 1 0 3) 0 ∧
    OperandForm wit (fun r2 => .storeBReg 14 r2 3) (fun l => .storeBLit 14 l 3)
      (.storeBLit 14 (.ext 0xFFFF) 3) 0xFFFF ∧
    wit.ss = (if (14#4 : Reg) = 14#4 ∨ (14#4 : Reg) = 15#4 then wit.ss else wit.ds) ∧
    (0xFFFF : Word).toNat = ((wit.reg 14).toNat + (0xFFFF : Word).toNat) % 2 ^ 16 ∧
    wit.kind (phys wit.ss 0xFFFF) = .ram ∧ (wit.withCfg mapped).kind (phys 1 0) ≠ .ram :=
  ⟨.inl ⟨0, rfl, by decide⟩, .inr ⟨.ext 0xFFFF, rfl, rfl⟩, rfl, by decide, rfl, by decide⟩

/-- 0x7FFF + 0x0001 overflows (TOE clear), 0x7FFF + 0xFFFF does not. -/
theorem witness_AddGivesSumCarryAndOverflow :
    OperandForm wit (fun r2 => .addReg r2 5) (fun l => .addLit l 5) (.addReg 2 5) 1 ∧
    OperandForm wit (fun r2 => .addReg r2 5) (fun l => .addLit l 5) (.addLit (.ext 0xFFFF) 5) 0xFFFF ∧
    (∃ r2, Instr.addc 2 5 = .addc r2 5 ∧ (1 : Word) = wit.reg r2 ∧ 0 = (wit.flag .cf).toNat) ∧
    32767 < (wit.reg 5).toInt + (1 : Word).toInt + (0 : Nat) ∧ wit.flag .toe = false ∧
    ¬((wit.reg 5).toInt + (0xFFFF : Word).toInt + (0 : Nat) < -32768 ∨
      32767 < (wit.reg 5).toInt + (0xFFFF : Word).toInt + (0 : Nat)) ∧ wit.ia = 0#16 :=
  ⟨.inl ⟨2, rfl, by decide⟩, .inr ⟨.ext 0xFFFF, rfl, rfl⟩, ⟨2, rfl, by decide, by decide⟩, by decide,
    by decide, by decide, rfl⟩

/-- 0x8000 - 1 overflows (TOE clear), 0x8000 - 0xFFFF does not; the borrow in is 0 or 1. -/
theorem witness_SubGivesDifferenceBorrowAndOverflow :
    OperandForm wit (fun r2 => .subReg r2 3) (fun l => .subLit l 3) (.subReg 2 3) 1 ∧
    OperandForm wit (fun r2 => .subbReg r2 3) (fun l => .subbLit l 3) (.subbLit (.ext 0xFFFF) 3) 0xFFFF ∧
    1 = ((wit.setFlags 1).flag .cf).toNat ∧
    (wit.reg 3).toInt - (1 : Word).toInt - (0 : Nat) < -32768 ∧ wit.flag .toe = false ∧
    ¬((wit.reg 3).toInt - (0xFFFF : Word).toInt - (1 : Nat) < -32768 ∨
      32767 < (wit.reg 3).toInt - (0xFFFF : Word).toInt - (1 : Nat)) :=
  ⟨.inl ⟨2, rfl, by decide⟩, .inr ⟨.ext 0xFFFF, rfl, rfl⟩, by decide, by decide, by decide, by decide⟩

/-- The four families at 32768 and -32769, with TOE set and the gate open. -/
theorem witness_OverflowWithToeEntersWithMessageFour :
    let s := (wit.setIa 1).setFlags 0x0201
    s.flag .toe = true ∧ s.ia ≠ 0#16 ∧ s.flag .intf = false ∧ (s.flag .cf).toInt = 1 ∧
    OperandForm s (fun r2 => .addReg r2 5) (fun l => .addLit l 5) (.addReg 2 5) 1 ∧
    (32768 : Int) = (s.reg 5).toInt + (1 : Word).toInt ∧
    (32768 : Int) = (s.reg 5).toNat + (1 : Word).toNat ∧
    (∃ r2, Instr.addc 0 5 = .addc r2 5 ∧ (0 : Word) = s.reg r2 ∧
      (32768 : Int) = (s.reg 5).toInt + (0 : Word).toInt + (s.flag .cf).toInt ∧
      (32768 : Int) = (s.reg 5).toNat + (0 : Word).toNat + (s.flag .cf).toNat) ∧
    OperandForm s (fun r2 => .subReg r2 3) (fun l => .subLit l 3) (.subLit (.short 1) 3) 1 ∧
    (-32769 : Int) = (s.reg 3).toInt - (1 : Word).toInt ∧
    (32767 : Int) = (s.reg 3).toNat - (1 : Word).toNat ∧
    OperandForm s (fun r2 => .subbReg r2 3) (fun l => .subbLit l 3) (.subbReg 0 3) 0 ∧
    (-32769 : Int) = (s.reg 3).toInt - (0 : Word).toInt - (s.flag .cf).toInt ∧
    (32767 : Int) = (s.reg 3).toNat - (0 : Word).toNat - (s.flag .cf).toNat :=
  ⟨by decide, by decide, by decide, by decide, .inl ⟨2, rfl, by decide⟩, by decide,
    by decide, ⟨0, rfl, by decide, by decide, by decide⟩, .inr ⟨.short 1, rfl, rfl⟩, by decide,
    by decide, .inl ⟨0, rfl, by decide⟩, by decide, by decide⟩

theorem witness_MultiplyIsExactAcrossYAndReg :
    OperandForm wit (fun r2 => .umulReg r2 1) (fun l => .umulLit l 1) (.umulReg 1 1) 0xFFFF ∧
    OperandForm wit (fun r2 => .mulReg r2 3) (fun l => .mulLit l 3) (.mulReg 3 3) 0x8000 ∧
    OperandForm wit (fun r2 => .mulReg r2 3) (fun l => .mulLit l 3) (.mulLit (.short 0) 3) 0 :=
  ⟨.inl ⟨1, rfl, by decide⟩, .inl ⟨3, rfl, by decide⟩, .inr ⟨.short 0, rfl, rfl⟩⟩

/-- -2^31 / -1, and -2^31 / 1. -/
theorem witness_DivideGivesQuotientAcrossYAndReg :
    let s := (wit.setY 0x8000).setReg 4 0
    (0xFFFF : Word) ≠ 0#16 ∧ (1 : Word) ≠ 0#16 ∧
    OperandForm s (fun r2 => .udivReg r2 4) (fun l => .udivLit l 4) (.udivLit (.short 1) 4) 1 ∧
    OperandForm s (fun r2 => .divReg r2 4) (fun l => .divLit l 4) (.divReg 1 4) 0xFFFF ∧
    ((s.y ++ s.reg 4 : BitVec 32) = 0x80000000#32 ∧ (0xFFFF : Word) = 0xFFFF#16) ∧
    ¬((s.y ++ s.reg 4 : BitVec 32) = 0x80000000#32 ∧ (1 : Word) = 0xFFFF#16) :=
  ⟨by decide, by decide, .inr ⟨.short 1, rfl, rfl⟩, .inl ⟨1, rfl, by decide⟩, by decide, by decide⟩

theorem witness_RemainderKeepsY : (0xFFFF : Word) ≠ 0#16 ∧ (1 : Word) ≠ 0#16 ∧
    OperandForm wit (fun r2 => .umodReg r2 3) (fun l => .umodLit l 3) (.umodReg 1 3) 0xFFFF ∧
    OperandForm wit (fun r2 => .modReg r2 3) (fun l => .modLit l 3) (.modLit (.short 1) 3) 1 :=
  ⟨by decide, by decide, .inl ⟨1, rfl, by decide⟩, .inr ⟨.short 1, rfl, rfl⟩⟩

theorem witness_DivisionByZeroSetsDeAndGoesOn :
    wit.flag .tde = false ∧ ((wit.setFlags 0x0408).flag .intf = true) ∧ wit.ia = 0#16 ∧
    OperandForm wit (fun r2 => .udivReg r2 3) (fun l => .udivLit l 3) (.udivReg 0 3) 0 ∧
    OperandForm wit (fun r2 => .divReg r2 3) (fun l => .divLit l 3) (.divLit (.short 0) 3) 0 ∧
    OperandForm wit (fun r2 => .umodReg r2 3) (fun l => .umodLit l 3) (.umodLit (.ext 0) 3) 0 ∧
    OperandForm wit (fun r2 => .modReg r2 3) (fun l => .modLit l 3) (.modReg 0 3) 0 :=
  ⟨by decide, by decide, rfl, .inl ⟨0, rfl, by decide⟩, .inr ⟨.short 0, rfl, rfl⟩,
    .inr ⟨.ext 0, rfl, rfl⟩, .inl ⟨0, rfl, by decide⟩⟩

theorem witness_DivisionErrorWithTdeEntersWithMessageZero :
    let s := (wit.setIa 1).setFlags 0x0400
    s.flag .tde = true ∧ s.ia ≠ 0#16 ∧ s.flag .intf = false ∧
    OperandForm s (fun r2 => .udivReg r2 3) (fun l => .udivLit l 3) (.udivReg 0 3) 0 ∧
    OperandForm s (fun r2 => .divReg r2 3) (fun l => .divLit l 3) (.divLit (.short 0) 3) 0 ∧
    OperandForm s (fun r2 => .umodReg r2 3) (fun l => .umodLit l 3) (.umodLit (.ext 0) 3) 0 ∧
    OperandForm s (fun r2 => .modReg r2 3) (fun l => .modLit l 3) (.modReg 0 3) 0 :=
  ⟨by decide, by decide, by decide, .inl ⟨0, rfl, by decide⟩, .inr ⟨.short 0, rfl, rfl⟩,
    .inr ⟨.ext 0, rfl, rfl⟩, .inl ⟨0, rfl, by decide⟩⟩

/-- The amounts 0, 16 and 0xFFFF, and 0xFFFF under SHIFT_BIG = mask4. -/
theorem witness_shift_amounts :
    0 = (if wit.cfg.shiftBig = .fullValue then (0 : Word).toNat else (0 : Word).toNat % 16) ∧
    16 = (if wit.cfg.shiftBig = .fullValue then (16 : Word).toNat else (16 : Word).toNat % 16) ∧
    65535 = (if wit.cfg.shiftBig = .fullValue then (0xFFFF : Word).toNat
      else (0xFFFF : Word).toNat % 16) ∧
    15 = (if (wit.withCfg { mapped with shiftBig := .mask4 }).cfg.shiftBig = .fullValue
      then (0xFFFF : Word).toNat else (0xFFFF : Word).toNat % 16) := by decide

theorem witness_ShiftLeftOnUnboundedIntegers :
    OperandForm wit (fun r2 => .sllReg r2 3) (fun l => .sllLit l 3) (.sllReg 1 3) 0xFFFF ∧
    OperandForm wit (fun r2 => .sllReg r2 3) (fun l => .sllLit l 3) (.sllLit (.ext 16) 3) 16 :=
  ⟨.inl ⟨1, rfl, by decide⟩, .inr ⟨.ext 16, rfl, rfl⟩⟩

theorem witness_ShiftRightLogicalDivides :
    OperandForm wit (fun r2 => .srlReg r2 3) (fun l => .srlLit l 3) (.srlReg 1 3) 0xFFFF ∧
    OperandForm wit (fun r2 => .srlReg r2 3) (fun l => .srlLit l 3) (.srlLit (.ext 16) 3) 16 :=
  ⟨.inl ⟨1, rfl, by decide⟩, .inr ⟨.ext 16, rfl, rfl⟩⟩

theorem witness_ShiftRightArithmeticFloors :
    OperandForm wit (fun r2 => .sraReg r2 3) (fun l => .sraLit l 3) (.sraReg 1 3) 0xFFFF ∧
    OperandForm wit (fun r2 => .sraReg r2 3) (fun l => .sraLit l 3) (.sraLit (.ext 16) 3) 16 :=
  ⟨.inl ⟨1, rfl, by decide⟩, .inr ⟨.ext 16, rfl, rfl⟩⟩

theorem witness_RotatesMoveEveryBit :
    OperandForm wit (fun r2 => .rotlReg r2 3) (fun l => .rotlLit l 3) (.rotlReg 1 3) 0xFFFF ∧
    OperandForm wit (fun r2 => .rotlReg r2 3) (fun l => .rotlLit l 3) (.rotlLit (.short 0) 3) 0 ∧
    OperandForm wit (fun r2 => .rotrReg r2 3) (fun l => .rotrLit l 3) (.rotrReg 1 3) 0xFFFF ∧
    OperandForm wit (fun r2 => .rotrReg r2 3) (fun l => .rotrLit l 3) (.rotrLit (.ext 16) 3) 16 :=
  ⟨.inl ⟨1, rfl, by decide⟩, .inr ⟨.short 0, rfl, rfl⟩, .inl ⟨1, rfl, by decide⟩,
    .inr ⟨.ext 16, rfl, rfl⟩⟩

theorem witness_SpecialMovesWriteOnlyTheirTarget :
    OperandForm wit .setyReg .setyLit (.setyReg 1) 0xFFFF ∧
    OperandForm wit .setyReg .setyLit (.setyLit (.short 14)) 14 ∧
    OperandForm wit .setiaReg .setiaLit (.setiaReg 0) 0 ∧
    OperandForm wit .setiaReg .setiaLit (.setiaLit (.ext 15)) 15 :=
  ⟨.inl ⟨1, rfl, by decide⟩, .inr ⟨.short 14, rfl, rfl⟩, .inl ⟨0, rfl, by decide⟩,
    .inr ⟨.ext 15, rfl, rfl⟩⟩

theorem witness_SleepAndSetflags :
    let t := (wit.setReg 4 0x0010).withCfg { mapped with reservedFlags := .refuse }
    wit.cfg.reservedFlags = .store ∧ t.reg 2 &&& 0xF8F0#16 = 0#16 ∧
    t.cfg.reservedFlags = .refuse ∧ t.reg 4 &&& 0xF8F0#16 ≠ 0#16 := by decide

theorem witness_SegmentMovesWriteOnlyTheirTarget :
    OperandForm wit .setcsReg .setcsLit (.setcsReg 1) 0xFFFF ∧
    OperandForm wit .setdsReg .setdsLit (.setdsLit (.short 14)) 14 ∧
    OperandForm wit .setssReg .setssLit (.setssLit (.ext 0xFFFF)) 0xFFFF ∧
    OperandForm wit .setisReg .setisLit (.setisReg 0) 0 :=
  ⟨.inl ⟨1, rfl, by decide⟩, .inr ⟨.short 14, rfl, rfl⟩, .inr ⟨.ext 0xFFFF, rfl, rfl⟩,
    .inl ⟨0, rfl, by decide⟩⟩

/-- Each test at a boundary where it holds. -/
theorem witness_TestThatHoldsChangesNothing :
    (TestOf wit (.beqReg 3 3) (wit.reg 3 = wit.reg 3)) ∧
    (TestOf wit (.bneqLit (.short 0) 2) (wit.reg 2 ≠ litValue (.short 0)) ∧
      wit.reg 2 ≠ litValue (.short 0)) ∧
    (TestOf wit (.bgReg 1 0) ((wit.reg 0).toInt > (wit.reg 1).toInt) ∧
      (wit.reg 0).toInt > (wit.reg 1).toInt) ∧
    (TestOf wit (.bgeLit (.ext 0x8000) 3) ((wit.reg 3).toInt ≥ (litValue (.ext 0x8000)).toInt) ∧
      (wit.reg 3).toInt ≥ (litValue (.ext 0x8000)).toInt) ∧
    (TestOf wit (.bugReg 3 1) ((wit.reg 1).toNat > (wit.reg 3).toNat) ∧
      (wit.reg 1).toNat > (wit.reg 3).toNat) ∧
    (TestOf wit (.bugeLit (.short 0) 0) ((wit.reg 0).toNat ≥ (litValue (.short 0)).toNat) ∧
      (wit.reg 0).toNat ≥ (litValue (.short 0)).toNat) ∧
    (TestOf wit (.bbits 1 3) (wit.reg 3 &&& wit.reg 1 ≠ 0#16) ∧ wit.reg 3 &&& wit.reg 1 ≠ 0#16) ∧
    (TestOf wit (.bclear 2 3) (wit.reg 3 &&& wit.reg 2 = 0#16) ∧ wit.reg 3 &&& wit.reg 2 = 0#16) ∧
    (TestOf (wit.setFlags 2) .bovf ((wit.setFlags 2).flag .ovf = true) ∧
      (wit.setFlags 2).flag .ovf = true) ∧
    (TestOf (wit.setFlags 1) .bocf ((wit.setFlags 1).flag .cf = true) ∧
      (wit.setFlags 1).flag .cf = true) :=
  ⟨.beqReg 3 3, ⟨.bneqLit _ _, by decide⟩, ⟨.bgReg _ _, by decide⟩, ⟨.bgeLit _ _, by decide⟩,
    ⟨.bugReg _ _, by decide⟩, ⟨.bugeLit _ _, by decide⟩, ⟨.bbits _ _, by decide⟩,
    ⟨.bclear _ _, by decide⟩, ⟨.bovf, by decide⟩, ⟨.bocf, by decide⟩⟩

/-- A one-word instruction at 0xFFFE, where the skip carries into CS, and a two-word one at 0xFFFB,
where it does not. -/
theorem witness_TestThatFailsSkipsNextInstruction :
    TestOf wit .bocf (wit.flag .cf = true) ∧ ¬(wit.flag .cf = true) ∧
    (wit.setPc 0xFFFE).pc ≠ 0xFFFF#16 ∧ (wit.setPc 0xFFFE).holdsWord 0 0xFFFE ∧
    decodeWords (((wit.setPc 0xFFFE).placeCode [0x0000]).peekWord 0 0xFFFE) 0 = .ok .nop ∧
    Instr.isConditional .nop = false ∧ ¬Instr.words .nop = 2 ∧
    decodeWords (((wit.setPc 0xFFFB).placeCode [0x62F5]).peekWord 0 0xFFFB) 0 = .ok (.set (.ext 0) 5) ∧
    Instr.isConditional (.set (.ext 0) 5) = false ∧ Instr.words (.set (.ext 0) 5) = 2 ∧
    (wit.setPc 0xFFFB).pc + 2#16 ≠ 0xFFFF#16 :=
  ⟨.bocf, by decide, by decide, ⟨.inl rfl, .inl rfl⟩, by decide, rfl, by decide, by decide, rfl, rfl,
    by decide⟩

/-- BOVF and then NOP: a chain of two. -/
theorem witness_TestThatFailsPassesWholeChain :
    let s := wit.placeCode [0x0008, 0x0000]
    TestOf s .bocf (s.flag .cf = true) ∧ ¬(s.flag .cf = true) ∧
    SkipsOver 2 s s.advancePc.advancePc ∧ (s.setSkipping true).asleep = false ∧
    (s.setSkipping true).skipping = true ∧ (s.setSkipping true).setSkipping false = s :=
  ⟨.bocf, by decide, ⟨1, (wit.placeCode [0x0008, 0x0000]).advancePc, .nop, rfl,
    .more 0 _ _ _ .bovf ⟨by decide, by decide, fun _ => rfl, fun h => absurd rfl h⟩ rfl (.none _),
    ⟨by decide, by decide, fun _ => rfl, fun h => absurd rfl h⟩, rfl⟩, rfl, rfl, rfl⟩

theorem witness_InpReadsPortOnce :
    OperandForm wit (fun r2 => .inpReg r2 3) (fun l => .inpLit l 3) (.inpReg 1 3) 0xFFFF ∧
    OperandForm wit (fun r2 => .inpReg r2 3) (fun l => .inpLit l 3) (.inpLit (.short 0) 3) 0 ∧
    (wit.setDevIn [7]).devIn = 7 :: [] ∧ wit.devIn = [] :=
  ⟨.inl ⟨1, rfl, by decide⟩, .inr ⟨.short 0, rfl, rfl⟩, rfl, rfl⟩

theorem witness_OutWritesPortOnce :
    OperandForm wit (fun r2 => .outReg r2 3) (fun l => .outLit l 3) (.outReg 1 3) 0xFFFF ∧
    OperandForm wit (fun r2 => .outReg r2 3) (fun l => .outLit l 3) (.outLit (.ext 0x100) 3) 0x100 :=
  ⟨.inl ⟨1, rfl, by decide⟩, .inr ⟨.ext 0x100, rfl, rfl⟩⟩

/-- One past either end of the segment, and exactly at either end. -/
theorem witness_RelativeJumpCrossesSegments :
    (0xFFFF : Int) < ((wit.setPc 0xFFFE).pc.toNat : Int) + (0x002 : BitVec 9).toInt ∧
    ((wit.setPc 0).pc.toNat : Int) + (0x1FF : BitVec 9).toInt < 0 ∧
    (0 : Int) ≤ ((wit.setPc 1).pc.toNat : Int) + (0x1FF : BitVec 9).toInt ∧
    ((wit.setPc 0xFFFE).pc.toNat : Int) + (0x001 : BitVec 9).toInt ≤ 0xFFFF := by decide

theorem witness_CallsPushReturnAddress :
    wit.ramWord wit.ss (wit.sp - 2#16) ∧ wit.ramWord wit.ss (wit.sp - 4#16) :=
  ⟨⟨rfl, rfl⟩, ⟨rfl, rfl⟩⟩

theorem witness_ReturnsPopTheirTarget :
    let s := wit.setReg 15 0xFFFF
    s.holdsWord s.ss s.sp ∧ s.holdsWord s.ss (s.sp + 2#16) :=
  ⟨⟨.inl rfl, .inl rfl⟩, ⟨.inl rfl, .inl rfl⟩⟩

theorem witness_ReturnUndoesCall : wit.ramWord wit.ss (wit.sp - 2#16) ∧
    wit.ramWord wit.ss (wit.sp - 4#16) := ⟨⟨rfl, rfl⟩, ⟨rfl, rfl⟩⟩

theorem witness_PushAndPopMoveOneWord : wit.ramWord wit.ss (wit.sp - 2#16) ∧
    (14#4 : Reg) ≠ 15#4 ∧ (wit.setReg 15 0xFFFF).holdsWord 0 (wit.setReg 15 0xFFFF).sp :=
  ⟨⟨rfl, rfl⟩, by decide, ⟨.inl rfl, .inl rfl⟩⟩

/-- An image of two bytes, at either end of the memory space. -/
theorem witness_InitialStateHoldsTheImageAndNothingElse :
    let image : List Host.Cell := [(0xFFFFF, 0xAB), (0, 0x12)]
    (∀ p ∈ image, p.1 < 2 ^ 20) ∧ (image.map Prod.fst).Nodup ∧ (0xFFFFF, 0xAB) ∈ image ∧
    1 ∉ image.map Prod.fst := by decide

/-- A step that writes memory. -/
theorem witness_StepKeepsCanonicalMemory :
    (wit.placeCode [0x2043]).mem.wf = true ∧ ∃ t, step (wit.placeCode [0x2043]) = .next t :=
  ⟨by decide, _, rfl⟩

/-- A store to ROM. -/
theorem witness_OnlyRamEverChanges :
    let s := ((wit.withCfg mapped).setDs 1).placeCode [0xC003]
    (∃ t, step s = .next t) ∧ s.kind 0x10000 ≠ .ram := ⟨⟨_, rfl⟩, by decide⟩

theorem witness_EnableBitsChangeOnlyBySetflags :
    (∃ t, step wit = .next t) ∧ ∀ r s1, wit.fetchInstr ≠ .ok (.setflags r, s1) :=
  ⟨⟨_, rfl⟩, fun r s1 h => by
    have e : wit.fetchInstr = .ok (.nop, wit.advancePc) := by decide
    rw [e] at h; cases h⟩

theorem witness_SpecialRegistersChangeOnlyByTheirInstructions :
    (∃ t, step wit = .next t) ∧ ∃ t, step (wit.placeCode [0x2143]) = .next t :=
  ⟨⟨_, rfl⟩, ⟨_, rfl⟩⟩

/-- A NOP with DS = 0 and with DS = 0xFFF0. -/
theorem witness_UpperBitsOfDsHaveNoEffect :
    (0xFFF0 : Word).extractLsb' 0 4 = wit.ds.extractLsb' 0 4 ∧
    (∀ r s1, wit.fetchInstr ≠ .ok (.getds r, s1) ∧ wit.fetchInstr ≠ .ok (.setdsReg r, s1)) ∧
    (∀ l s1, wit.fetchInstr ≠ .ok (.setdsLit l, s1)) ∧ ∃ t, step wit = .next t := by
  have e : wit.fetchInstr = .ok (.nop, wit.advancePc) := by decide
  refine ⟨by decide, fun r s1 => ⟨fun h => ?_, fun h => ?_⟩, fun l s1 h => ?_, ⟨_, rfl⟩⟩ <;>
    (rw [e] at h; cases h)

end Sys2Proof.Tests
end

section
/-! PROOFS, the family of 10_state.md: reset clears the registers (R27), the registers without a
number are written by their own instructions only (R16, R20, R21), and bits 15:4 of DS have no effect
(R21). -/

namespace Sys2Proof.Machine

/-! ## Reset -/

/-- Settles O7: the register file of the reset state is sixteen copies of 0. -/
theorem resetClearsEveryRegister : Obligations.ResetClearsEveryRegister := by
  refine ⟨fun r => ?_, rfl, rfl, rfl, rfl, rfl, rfl, rfl, rfl⟩
  exact Vector.getElem_replicate r.isLt

/-! ## Another value of DS goes through every operation

No operation but a load or a store looks at DS, and those look at its low four bits. So for every
operation `f`, running `f` with DS replaced is running `f` and replacing DS then: `setDs` moves
outwards through each update of the state, and `simp` moves it. -/

/-- The low four bits of a segment decide the physical address (20_memory.md R41). -/
theorem phys_congr {a b : Word} (h : a.extractLsb' 0 4 = b.extractLsb' 0 4) (off : Word) :
    phys a off = phys b off := by
  unfold phys; rw [h]

/-- An outcome with DS replaced in the state it answers. -/
def outcomeSetDs (d : Word) :
    Host.Outcome State Fault Refusal → Host.Outcome State Fault Refusal
  | .next s => .next (s.setDs d)
  | .fault f => .fault f
  | .refused r => .refused r

namespace State

variable (s : State) (d : Word)

/-! ### Updates of one field -/

@[simp] theorem setReg_setDs (r : Reg) (v : Word) :
    (s.setDs d).setReg r v = (s.setReg r v).setDs d := rfl
@[simp] theorem setPc_setDs (v : Word) : (s.setDs d).setPc v = (s.setPc v).setDs d := rfl
@[simp] theorem setCs_setDs (v : Word) : (s.setDs d).setCs v = (s.setCs v).setDs d := rfl
@[simp] theorem setY_setDs (v : Word) : (s.setDs d).setY v = (s.setY v).setDs d := rfl
@[simp] theorem setFlag_setDs (f : Flag) (b : Bool) :
    (s.setDs d).setFlag f b = (s.setFlag f b).setDs d := rfl
@[simp] theorem setAsleep_setDs (b : Bool) :
    (s.setDs d).setAsleep b = (s.setAsleep b).setDs d := rfl
@[simp] theorem setIack_setDs (b : Bool) : (s.setDs d).setIack b = (s.setIack b).setDs d := rfl
@[simp] theorem setSkipping_setDs (b : Bool) :
    (s.setDs d).setSkipping b = (s.setSkipping b).setDs d := rfl
@[simp] theorem logBus_setDs (e : BusEvent) : (s.setDs d).logBus e = (s.logBus e).setDs d := rfl
@[simp] theorem addDraws_setDs (n : Nat) :
    (s.setDs d).addDraws n = (s.addDraws n).setDs d := rfl

/-! ### Devices, memory and the stack -/

@[simp] theorem answer_setDs : (s.setDs d).answer = Prod.map id (·.setDs d) s.answer := by
  unfold State.answer
  rw [devIn_setDs]
  cases s.devIn <;> rfl

@[simp] theorem ioRead_setDs (port : Port) :
    (s.setDs d).ioRead port = Prod.map id (·.setDs d) (s.ioRead port) := by
  simp [State.ioRead]

@[simp] theorem readByte_setDs (p : Nat) :
    (s.setDs d).readByte p = Prod.map id (·.setDs d) (s.readByte p) := by
  unfold State.readByte
  rw [kind_setDs]
  cases s.kind p with
  | device n => simp
  | ram | rom | absent => rfl

@[simp] theorem writeByte_setDs (p : Nat) (v : Byte) :
    (s.setDs d).writeByte p v = (s.writeByte p v).setDs d := by
  unfold State.writeByte
  rw [kind_setDs]
  cases s.kind p <;> rfl

@[simp] theorem readWord_setDs (seg off : Word) :
    (s.setDs d).readWord seg off = Prod.map id (·.setDs d) (s.readWord seg off) := by
  simp [State.readWord]

@[simp] theorem writeWord_setDs (seg off v : Word) :
    (s.setDs d).writeWord seg off v = (s.writeWord seg off v).setDs d := by
  simp [State.writeWord]

@[simp] theorem push16_setDs (v : Word) : (s.setDs d).push16 v = (s.push16 v).setDs d := by
  unfold State.push16
  rw [cfg_setDs]
  cases s.cfg.stackByteOrder <;> simp

@[simp] theorem pop16_setDs : (s.setDs d).pop16 = Prod.map id (·.setDs d) s.pop16 := by
  unfold State.pop16
  rw [cfg_setDs]
  cases s.cfg.stackByteOrder <;> simp

/-! ### Interrupts and the boundary -/

@[simp] theorem enter_setDs (m : Word) : (s.setDs d).enter m = (s.enter m).setDs d := by
  simp [State.enter]

@[simp] theorem leave_setDs : (s.setDs d).leave = s.leave.setDs d := by
  simp [State.leave]

@[simp] theorem raise_setDs (m : Word) : (s.setDs d).raise m = (s.raise m).setDs d := by
  simp only [State.raise, gateOpen_setDs, enter_setDs]
  split <;> rfl

@[simp] theorem sampleInt_setDs :
    (s.setDs d).sampleInt = Prod.map id (·.setDs d) s.sampleInt := by
  unfold State.sampleInt
  rw [hwInt_setDs]
  cases s.hwInt <;> rfl

@[simp] theorem offer_setDs (hw : Option Word) : (s.setDs d).offer hw = (s.offer hw).setDs d := by
  cases hw with
  | none => rfl
  | some m => exact s.raise_setDs d m

@[simp] theorem boundary_setDs (armed : Bool) :
    (s.setDs d).boundary armed = (s.boundary armed).setDs d := by
  simp only [State.boundary, sampleInt_setDs, Prod.map_fst, Prod.map_snd, id_eq, gateOpen_setDs,
    enter_setDs, offer_setDs]
  split <;> rfl

@[simp] theorem endStep_setDs (armed : Bool) :
    (s.setDs d).endStep armed = (s.endStep armed).setDs d := by
  simp only [State.endStep, skipping_setDs, boundary_setDs]
  split <;> rfl

@[simp] theorem sleepStep_setDs : (s.setDs d).sleepStep = s.sleepStep.setDs d := by
  simp [State.sleepStep]

/-! ### Fetching and skipping -/

@[simp] theorem advancePc_setDs : (s.setDs d).advancePc = s.advancePc.setDs d := by
  by_cases h : 0xFFFF < s.pc.toNat + 2 <;> simp [State.advancePc, h]

@[simp] theorem fetch16_setDs :
    (s.setDs d).fetch16 = s.fetch16.map (Prod.map id (·.setDs d)) := by
  unfold State.fetch16
  rw [pc_setDs]
  split
  · rfl
  · simp [Except.map]

@[simp] theorem fetchInstr_setDs :
    (s.setDs d).fetchInstr = s.fetchInstr.map (Prod.map id (·.setDs d)) := by
  unfold State.fetchInstr
  rw [fetch16_setDs]
  rcases s.fetch16 with r | ⟨w, s1⟩
  · rfl
  simp only [Except.map, Prod.map_apply, id_eq]
  rcases decodeWords w 0#16 with e | i
  · rfl
  simp only
  split
  · rfl
  rw [fetch16_setDs]
  rcases s1.fetch16 with r | ⟨x, s2⟩
  · rfl
  simp only [Except.map, Prod.map_apply, id_eq]
  cases decodeWords w x <;> rfl

@[simp] theorem skipInstr_setDs :
    (s.setDs d).skipInstr = s.skipInstr.map (Prod.map id (·.setDs d)) := by
  unfold State.skipInstr
  rw [fetch16_setDs]
  rcases s.fetch16 with r | ⟨w, s1⟩
  · rfl
  simp only [Except.map, Prod.map_apply, id_eq, pc_setDs, advancePc_setDs]
  rcases decodeWords w 0#16 with e | i
  · rfl
  simp only
  split
  · rfl
  split <;> rfl

@[simp] theorem skipChain_setDs (fuel : Nat) :
    State.skipChain fuel (s.setDs d) = outcomeSetDs d (State.skipChain fuel s) := by
  induction fuel generalizing s with
  | zero => rfl
  | succ n ih =>
    rw [skipChain_succ, skipChain_succ, skipInstr_setDs]
    rcases s.skipInstr with r | ⟨i, s1⟩
    · rfl
    simp only [Except.map, Prod.map_apply, id_eq, ih]
    split <;> rfl

@[simp] theorem conditional_setDs (b : Bool) :
    (s.setDs d).conditional b = outcomeSetDs d (s.conditional b) := by
  cases b with
  | true => rfl
  | false => exact s.skipChain_setDs d skipFuel

/-! ### What several instructions share -/

@[simp] theorem finishArith_setDs (r3 : Reg) (r : ArithResult) :
    (s.setDs d).finishArith r3 r = (s.finishArith r3 r).setDs d := by
  simp only [State.finishArith, setReg_setDs, setFlag_setDs, flag_setDs, raise_setDs]
  split <;> rfl

@[simp] theorem divError_setDs : (s.setDs d).divError = s.divError.setDs d := by
  simp only [State.divError, setFlag_setDs, flag_setDs, raise_setDs]
  split <;> rfl

@[simp] theorem divide_setDs (r3 : Reg) (b : Word) (q : BitVec 32) :
    (s.setDs d).divide r3 b q = (s.divide r3 b q).setDs d := by
  by_cases h : b = 0#16
  · subst h
    simp [divide_of_zero]
  · rw [divide_of_ne _ _ _ _ h, divide_of_ne _ _ _ _ h]
    rfl

@[simp] theorem remainder_setDs (r3 : Reg) (b m : Word) :
    (s.setDs d).remainder r3 b m = (s.remainder r3 b m).setDs d := by
  by_cases h : b = 0#16
  · subst h
    simp [remainder_of_zero]
  · rw [remainder_of_ne _ _ _ _ h, remainder_of_ne _ _ _ _ h]
    rfl

@[simp] theorem inp_setDs (r3 : Reg) (b : Word) : (s.setDs d).inp r3 b = (s.inp r3 b).setDs d := by
  simp [State.inp]

@[simp] theorem jumpRel_setDs (off : BitVec 9) :
    (s.setDs d).jumpRel off = (s.jumpRel off).setDs d := by
  simp only [State.jumpRel, pc_setDs, setPc_setDs, cs_setDs, setCs_setDs,
    apply_ite (State.setDs · d)]
  rfl

/-! ### Loads and stores, where only the low four bits of DS count -/

section
variable {s d} (h : d.extractLsb' 0 4 = s.ds.extractLsb' 0 4)
include h

theorem phys_dataSeg_setDs (r1 : Reg) (off : Word) :
    phys ((s.setDs d).dataSeg r1) off = phys (s.dataSeg r1) off := by
  unfold State.dataSeg
  split
  · rfl
  · exact phys_congr h off

theorem loadWord_setDs (r1 : Reg) (b : Word) (r3 : Reg) :
    (s.setDs d).loadWord r1 b r3 = (s.loadWord r1 b r3).setDs d := by
  simp [State.loadWord, State.readWord, State.dataOff, phys_dataSeg_setDs h]

theorem loadByte_setDs (r1 : Reg) (b : Word) (r3 : Reg) :
    (s.setDs d).loadByte r1 b r3 = (s.loadByte r1 b r3).setDs d := by
  simp only [State.loadByte, State.dataOff, phys_dataSeg_setDs h, cfg_setDs, readByte_setDs]
  cases s.cfg.loadbUpper <;> rfl

theorem storeWord_setDs (r1 : Reg) (b : Word) (r3 : Reg) :
    (s.setDs d).storeWord r1 b r3 = (s.storeWord r1 b r3).setDs d := by
  simp [State.storeWord, State.writeWord, State.dataOff, phys_dataSeg_setDs h]

theorem storeByte_setDs (r1 : Reg) (b : Word) (r3 : Reg) :
    (s.setDs d).storeByte r1 b r3 = (s.storeByte r1 b r3).setDs d := by
  simp [State.storeByte, State.dataOff, phys_dataSeg_setDs h]

end

end State

open State

/-! ## Bits 15:4 of DS (R21) -/

/-- Every instruction but those that move DS does the same under a DS with the same low four bits. The
instructions left to `rfl` only update fields other than DS, with values that DS does not enter. -/
theorem exec_setDs {i : Instr} {s : State} {d : Word}
    (hd : d.extractLsb' 0 4 = s.ds.extractLsb' 0 4)
    (hget : ∀ r, i ≠ .getds r) (hreg : ∀ r, i ≠ .setdsReg r) (hlit : ∀ l, i ≠ .setdsLit l) :
    exec i (s.setDs d) = outcomeSetDs d (exec i s) := by
  cases i with
  | getds r => exact absurd rfl (hget r)
  | setdsReg r => exact absurd rfl (hreg r)
  | setdsLit l => exact absurd rfl (hlit l)
  | loadLit | loadReg => exact congrArg Host.Outcome.next (loadWord_setDs hd ..)
  | loadBLit | loadBReg => exact congrArg Host.Outcome.next (loadByte_setDs hd ..)
  | storeLit | storeReg => exact congrArg Host.Outcome.next (storeWord_setDs hd ..)
  | storeBLit | storeBReg => exact congrArg Host.Outcome.next (storeByte_setDs hd ..)
  | addReg | addLit | addc | subReg | subLit | subbReg | subbLit =>
    exact congrArg Host.Outcome.next (finishArith_setDs s d ..)
  | udivReg | udivLit | divReg | divLit => exact congrArg Host.Outcome.next (divide_setDs s d ..)
  | umodReg | umodLit | modReg | modLit =>
    exact congrArg Host.Outcome.next (remainder_setDs s d ..)
  | beqReg | beqLit | bneqReg | bneqLit | bgReg | bgLit | bgeReg | bgeLit | bugReg | bugLit
  | bugeReg | bugeLit | bbits | bclear | bovf | bocf => exact conditional_setDs s d _
  | inpReg | inpLit => exact congrArg Host.Outcome.next (inp_setDs s d ..)
  | intReg | intLit => exact congrArg Host.Outcome.next (raise_setDs s d ..)
  | rfi => exact congrArg Host.Outcome.next (leave_setDs s d)
  | jmpRel off => exact congrArg Host.Outcome.next (jumpRel_setDs s d off)
  | callAbs | callRel | lcall | push | pop | ret | lret =>
    simp [exec, execCallAbs, execCallRel, execLcall, execPush, execPop, execRet, execLret,
      outcomeSetDs, State.absTarget]
  | setflags r =>
    simp only [exec, execSetflags, cfg_setDs, reg_setDs, apply_ite (outcomeSetDs d)]
    rfl
  | _ => rfl

theorem endOutcome_setDs (armed : Bool) (d : Word) (o : Host.Outcome State Fault Refusal) :
    endOutcome armed (outcomeSetDs d o) = outcomeSetDs d (endOutcome armed o) := by
  cases o with
  | next s => exact congrArg Host.Outcome.next (s.endStep_setDs d armed)
  | fault | refused => rfl

/-- A step, whatever it answers, from a state whose DS is replaced by one with the same low four bits:
the same answer with DS replaced in it. -/
theorem step_setDs {s : State} {d : Word} (hd : d.extractLsb' 0 4 = s.ds.extractLsb' 0 4)
    (hget : ∀ r s1, s.fetchInstr ≠ .ok (.getds r, s1))
    (hreg : ∀ r s1, s.fetchInstr ≠ .ok (.setdsReg r, s1))
    (hlit : ∀ l s1, s.fetchInstr ≠ .ok (.setdsLit l, s1)) :
    step (s.setDs d) = outcomeSetDs d (step s) := by
  have harmed : (s.setDs d).stepArmed = s.stepArmed := rfl
  unfold step
  rw [asleep_setDs, skipping_setDs, harmed]
  split
  · rw [sleepStep_setDs]; rfl
  split
  · unfold State.resumeSkip
    rw [setSkipping_setDs, skipChain_setDs, endOutcome_setDs]
  rw [fetchInstr_setDs]
  rcases hf : s.fetchInstr with r | ⟨i, s1⟩
  · rfl
  have hds : s1.ds = s.ds := by
    obtain ⟨-, -, -, -, -, hds, -⟩ := s.fetchInstr_kept hf
    exact hds
  have hexec : exec i (s1.setDs d) = outcomeSetDs d (exec i s1) :=
    exec_setDs (hds ▸ hd) (fun r e => hget r s1 (e ▸ hf)) (fun r e => hreg r s1 (e ▸ hf))
      (fun l e => hlit l s1 (e ▸ hf))
  simp only [Except.map, Prod.map_apply, id_eq, hexec, endOutcome_setDs]

/-- Settles O59: the step commutes with replacing DS (`step_setDs`). -/
theorem upperBitsOfDsHaveNoEffect : Obligations.UpperBitsOfDsHaveNoEffect := by
  intro s t d hd hreads hlit h
  have hstep := step_setDs hd (fun r s1 => (hreads r s1).1) (fun r s1 => (hreads r s1).2) hlit
  rw [hstep, h]
  rfl

/-! ## DS, SS, IS, IA and Y (R16, R20, R21) -/

/-- Which of DS, SS, IS, IA and Y an instruction writes; none writes two of them. -/
def dedicatedTarget : Instr → Option Special
  | .setdsReg _ | .setdsLit _ => some .ds
  | .setssReg _ | .setssLit _ => some .ss
  | .setisReg _ | .setisLit _ => some .is
  | .setiaReg _ | .setiaLit _ => some .ia
  | .setyReg _ | .setyLit _ | .umulReg _ _ | .umulLit _ _ | .mulReg _ _ | .mulLit _ _
  | .udivReg _ _ | .udivLit _ _ | .divReg _ _ | .divLit _ _ => some .y
  | _ => none

/-- DS, SS, IS, IA and Y are the same in `t` as in `s`, but for the one that `o` names. -/
def DedicatedKept (o : Option Special) (s t : State) : Prop :=
  ∀ x, x ≠ .pc → x ≠ .cs → o ≠ some x → t.special x = s.special x

namespace DedicatedKept

theorem of_fields {o : Option Special} {s t : State} (hds : o = some .ds ∨ t.ds = s.ds)
    (hss : o = some .ss ∨ t.ss = s.ss) (his : o = some .is ∨ t.is = s.is)
    (hia : o = some .ia ∨ t.ia = s.ia) (hy : o = some .y ∨ t.y = s.y) : DedicatedKept o s t := by
  intro x hpc hcs hx
  cases x with
  | pc => exact absurd rfl hpc
  | cs => exact absurd rfl hcs
  | ds => exact hds.resolve_left hx
  | ss => exact hss.resolve_left hx
  | is => exact his.resolve_left hx
  | ia => exact hia.resolve_left hx
  | y => exact hy.resolve_left hx

theorem refl (o : Option Special) (s : State) : DedicatedKept o s s := fun _ _ _ _ => rfl

theorem trans {o : Option Special} {s t u : State} (h : DedicatedKept o s t)
    (h' : DedicatedKept o t u) : DedicatedKept o s u :=
  fun x hpc hcs hx => (h' x hpc hcs hx).trans (h x hpc hcs hx)

variable (o : Option Special) (s : State)

theorem setSkipping (b : Bool) : DedicatedKept o s (s.setSkipping b) := by
  apply of_fields <;> simp

theorem sleepStep : DedicatedKept o s s.sleepStep := by
  apply of_fields <;> simp

theorem boundary (armed : Bool) : DedicatedKept o s (s.boundary armed) := by
  apply of_fields <;> simp

theorem endStep (armed : Bool) : DedicatedKept o s (s.endStep armed) := by
  rcases s.endStep_cases armed with e | e <;> rw [e]
  · exact refl o s
  · exact boundary o s armed

variable {s} {t : State}

theorem fetchInstr {i : Instr} (h : s.fetchInstr = .ok (i, t)) : DedicatedKept o s t := by
  obtain ⟨-, -, -, hy, hia, hds, hss, his, -⟩ := s.fetchInstr_kept h
  exact of_fields (.inr hds) (.inr hss) (.inr his) (.inr hia) (.inr hy)

theorem skipChain {fuel : Nat} (h : State.skipChain fuel s = .next t) : DedicatedKept o s t := by
  obtain ⟨-, -, -, hy, hia, hds, hss, his, -⟩ := s.skipChain_kept fuel h
  exact of_fields (.inr hds) (.inr hss) (.inr his) (.inr hia) (.inr hy)

theorem conditional {b : Bool} (h : s.conditional b = .next t) : DedicatedKept o s t := by
  cases b with
  | true => cases h; exact refl o s
  | false => exact skipChain o h

/-- An instruction writes no register of the five but its own. Each instruction that is not a test,
SETFLAGS or a pop answers a state that the shared operations build, and `simp` has their frames. -/
theorem exec {i : Instr} (h : exec i s = .next t) : DedicatedKept (dedicatedTarget i) s t := by
  cases i with
  | beqReg | beqLit | bneqReg | bneqLit | bgReg | bgLit | bgeReg | bgeLit | bugReg | bugLit
  | bugeReg | bugeLit | bbits | bclear | bovf | bocf => exact conditional none h
  | setflags r =>
    simp only [Machine.exec, execSetflags] at h
    split at h
    · cases h
    · cases h; exact refl none s
  | pop r =>
    cases (s.execPop_eq r).symm.trans h
    apply of_fields <;> simp
  | ret =>
    cases s.execRet_eq.symm.trans h
    apply of_fields <;> simp
  | lret =>
    cases s.execLret_eq.symm.trans h
    apply of_fields <;> simp
  | _ =>
    cases h
    apply of_fields <;> simp [dedicatedTarget]

end DedicatedKept

/-- A step changes one of the five registers only where the instruction it runs is one that writes
it. -/
theorem step_special {s t : State} (h : step s = .next t) (x : Special) (hpc : x ≠ .pc)
    (hcs : x ≠ .cs) : t.special x = s.special x ∨
      ∃ i s1, s.fetchInstr = .ok (i, s1) ∧ dedicatedTarget i = some x := by
  rcases s.step_cases h with ⟨-, rfl⟩ | ⟨-, -, u, hu, rfl⟩ | ⟨-, -, i, s1, u, hf, hu, rfl⟩
  · exact .inl (DedicatedKept.sleepStep none s x hpc hcs nofun)
  · have hkept : DedicatedKept none s (u.endStep s.stepArmed) :=
      ((DedicatedKept.setSkipping none s false).trans (.skipChain none hu)).trans (.endStep none u _)
    exact .inl (hkept x hpc hcs nofun)
  · have hkept : DedicatedKept (dedicatedTarget i) s (u.endStep s.stepArmed) :=
      ((DedicatedKept.fetchInstr _ hf).trans (.exec hu)).trans (.endStep _ u _)
    by_cases hx : dedicatedTarget i = some x
    · exact .inr ⟨i, s1, hf, hx⟩
    · exact .inl (hkept x hpc hcs hx)

theorem eq_setds_of_dedicatedTarget {i : Instr} (h : dedicatedTarget i = some .ds) :
    (∃ r, i = .setdsReg r) ∨ ∃ l, i = .setdsLit l := by
  cases i with
  | setdsReg r => exact .inl ⟨r, rfl⟩
  | setdsLit l => exact .inr ⟨l, rfl⟩
  | _ => cases h

theorem eq_setss_of_dedicatedTarget {i : Instr} (h : dedicatedTarget i = some .ss) :
    (∃ r, i = .setssReg r) ∨ ∃ l, i = .setssLit l := by
  cases i with
  | setssReg r => exact .inl ⟨r, rfl⟩
  | setssLit l => exact .inr ⟨l, rfl⟩
  | _ => cases h

theorem eq_setis_of_dedicatedTarget {i : Instr} (h : dedicatedTarget i = some .is) :
    (∃ r, i = .setisReg r) ∨ ∃ l, i = .setisLit l := by
  cases i with
  | setisReg r => exact .inl ⟨r, rfl⟩
  | setisLit l => exact .inr ⟨l, rfl⟩
  | _ => cases h

theorem eq_setia_of_dedicatedTarget {i : Instr} (h : dedicatedTarget i = some .ia) :
    (∃ r, i = .setiaReg r) ∨ ∃ l, i = .setiaLit l := by
  cases i with
  | setiaReg r => exact .inl ⟨r, rfl⟩
  | setiaLit l => exact .inr ⟨l, rfl⟩
  | _ => cases h

/-- The instructions that write Y: SETY, the multiplications and the divisions, but not the
remainders (D13). -/
theorem mem_writers_of_dedicatedTarget_y {i : Instr} (h : dedicatedTarget i = some .y) :
    ∃ r2 r3 l, i ∈ [Instr.umulReg r2 r3, .umulLit l r3, .mulReg r2 r3, .mulLit l r3,
      .udivReg r2 r3, .udivLit l r3, .divReg r2 r3, .divLit l r3, .setyReg r3, .setyLit l] := by
  cases i with
  | umulReg r2 r3 | mulReg r2 r3 | udivReg r2 r3 | divReg r2 r3 =>
    exact ⟨r2, r3, .short 0, by simp⟩
  | umulLit l r3 | mulLit l r3 | udivLit l r3 | divLit l r3 => exact ⟨0, r3, l, by simp⟩
  | setyReg r3 => exact ⟨0, r3, .short 0, by simp⟩
  | setyLit l => exact ⟨0, 0, l, by simp⟩
  | _ => cases h

/-- A register that only the two forms of one instruction write is the same after a step, or the
instruction fetched was one of the two. -/
theorem step_special_of_forms {s t : State} (h : step s = .next t) {x : Special} (hpc : x ≠ .pc)
    (hcs : x ≠ .cs) {reg : Reg → Instr} {lit : Lit → Instr}
    (hforms : ∀ {i}, dedicatedTarget i = some x → (∃ r, i = reg r) ∨ ∃ l, i = lit l) :
    t.special x = s.special x ∨
      ∃ s1 r l, s.fetchInstr = .ok (reg r, s1) ∨ s.fetchInstr = .ok (lit l, s1) := by
  rcases step_special h x hpc hcs with e | ⟨i, s1, hf, hi⟩
  · exact .inl e
  · rcases hforms hi with ⟨r, rfl⟩ | ⟨l, rfl⟩
    · exact .inr ⟨s1, r, .short 0, .inl hf⟩
    · exact .inr ⟨s1, 0, l, .inr hf⟩

/-- Settles O58: `step_special` for each of the five registers, with the instructions whose target it
is. -/
theorem specialRegistersChangeOnlyByTheirInstructions :
    Obligations.SpecialRegistersChangeOnlyByTheirInstructions := by
  intro s t h
  refine ⟨step_special_of_forms h (x := .ds) nofun nofun eq_setds_of_dedicatedTarget,
    step_special_of_forms h (x := .ss) nofun nofun eq_setss_of_dedicatedTarget,
    step_special_of_forms h (x := .is) nofun nofun eq_setis_of_dedicatedTarget,
    step_special_of_forms h (x := .ia) nofun nofun eq_setia_of_dedicatedTarget, ?_⟩
  rcases step_special h .y nofun nofun with e | ⟨i, s1, hf, hi⟩
  · exact .inl e
  · obtain ⟨r2, r3, l, hmem⟩ := mem_writers_of_dedicatedTarget_y hi
    exact .inr ⟨i, s1, r2, r3, l, hf, hmem⟩

end Sys2Proof.Machine
end

section
/-! PROOFS, the family of 20_memory.md: only RAM ever changes, what a read and a write do at each kind
of location (R45, R46), the fetch (R48, R49), and LOAD, STORE and STORE.B as reads and writes at their
effective address (40_ram.md R100, R101, R103, R104). -/

namespace Sys2Proof.Machine

/-! ## Only RAM changes (R46)

The kind of a location is read from the parameters, so a claim about several operations in a row needs
that each keeps them: the two facts go together in one relation, which is transitive. -/

/-- From `s` to `t` no location changes but RAM, and the parameters, which say where RAM is, are
kept. -/
structure OnlyRamChanges (s t : State) : Prop where
  cfg : t.cfg = s.cfg
  read : ∀ a, s.kind a ≠ .ram → t.mem.read a = s.mem.read a

namespace OnlyRamChanges

theorem of_mem_eq {s t : State} (hcfg : t.cfg = s.cfg) (hmem : t.mem = s.mem) :
    OnlyRamChanges s t :=
  ⟨hcfg, fun a _ => by rw [hmem]⟩

theorem refl (s : State) : OnlyRamChanges s s := of_mem_eq rfl rfl

theorem trans {s t u : State} (h : OnlyRamChanges s t) (h' : OnlyRamChanges t u) :
    OnlyRamChanges s u where
  cfg := h'.cfg.trans h.cfg
  read a ha := by
    have hkind : t.kind a ≠ .ram := by unfold State.kind; rw [h.cfg]; exact ha
    exact (h'.read a hkind).trans (h.read a ha)

variable (s : State)

theorem writeByte (p : Nat) (v : Byte) : OnlyRamChanges s (s.writeByte p v) :=
  ⟨s.cfg_writeByte p v, fun a => s.read_writeByte_not_ram p a v⟩

theorem writeWord (seg off v : Word) : OnlyRamChanges s (s.writeWord seg off v) :=
  ⟨s.cfg_writeWord seg off v, fun a => s.read_writeWord_not_ram seg off v a⟩

theorem push16 (v : Word) : OnlyRamChanges s (s.push16 v) :=
  ⟨s.cfg_push16 v, fun a => s.read_push16_not_ram v a⟩

theorem raise (m : Word) : OnlyRamChanges s (s.raise m) :=
  ⟨s.cfg_raise m, fun a => s.read_raise_not_ram m a⟩

theorem finishArith (r3 : Reg) (r : ArithResult) : OnlyRamChanges s (s.finishArith r3 r) :=
  ⟨s.cfg_finishArith r3 r, fun a => s.read_finishArith_not_ram r3 r a⟩

theorem divide (r3 : Reg) (b : Word) (q : BitVec 32) : OnlyRamChanges s (s.divide r3 b q) :=
  ⟨s.cfg_divide r3 b q, fun a => s.read_divide_not_ram r3 b q a⟩

theorem remainder (r3 : Reg) (b m : Word) : OnlyRamChanges s (s.remainder r3 b m) :=
  ⟨s.cfg_remainder r3 b m, fun a => s.read_remainder_not_ram r3 b m a⟩

theorem sleepStep : OnlyRamChanges s s.sleepStep :=
  ⟨s.cfg_sleepStep, fun a => s.read_sleepStep_not_ram a⟩

theorem boundary (armed : Bool) : OnlyRamChanges s (s.boundary armed) :=
  ⟨s.cfg_boundary armed, fun a => s.read_boundary_not_ram armed a⟩

theorem endStep (armed : Bool) : OnlyRamChanges s (s.endStep armed) := by
  rcases s.endStep_cases armed with e | e <;> rw [e]
  · exact refl s
  · exact boundary s armed

variable {s} {t : State}

theorem fetchInstr {i : Instr} (h : s.fetchInstr = .ok (i, t)) : OnlyRamChanges s t := by
  obtain ⟨-, -, hmem, -, -, -, -, -, -, -, hcfg, -⟩ := s.fetchInstr_kept h
  exact of_mem_eq hcfg hmem

theorem skipChain {fuel : Nat} (h : State.skipChain fuel s = .next t) : OnlyRamChanges s t := by
  obtain ⟨-, -, hmem, -, -, -, -, -, -, -, hcfg, -⟩ := s.skipChain_kept fuel h
  exact of_mem_eq hcfg hmem

theorem conditional {b : Bool} (h : s.conditional b = .next t) : OnlyRamChanges s t := by
  cases b with
  | true => cases h; exact refl s
  | false => exact skipChain h

/-- An instruction changes memory by the writes of STORE and STORE.B, by the pushes of PUSH and the
calls, and by those of the interrupt it raises itself; every other leaves memory as it is. -/
theorem exec {i : Instr} (h : exec i s = .next t) : OnlyRamChanges s t := by
  cases i with
  | storeLit | storeReg => cases h; exact writeWord s ..
  | storeBLit | storeBReg => cases h; exact writeByte s ..
  | push => cases h; exact push16 s _
  | callAbs | callRel => cases h; exact (push16 s _).trans (of_mem_eq rfl rfl)
  | lcall =>
    cases h
    exact ((push16 s _).trans (push16 _ _)).trans (of_mem_eq rfl rfl)
  | addReg | addLit | addc | subReg | subLit | subbReg | subbLit => cases h; exact finishArith s ..
  | udivReg | udivLit | divReg | divLit => cases h; exact divide s ..
  | umodReg | umodLit | modReg | modLit => cases h; exact remainder s ..
  | intReg | intLit => cases h; exact raise s _
  | beqReg | beqLit | bneqReg | bneqLit | bgReg | bgLit | bgeReg | bgeLit | bugReg | bugLit
  | bugeReg | bugeLit | bbits | bclear | bovf | bocf => exact conditional h
  | setflags r =>
    simp only [Machine.exec, execSetflags] at h
    split at h
    · cases h
    · cases h; exact of_mem_eq rfl rfl
  | pop r =>
    cases (s.execPop_eq r).symm.trans h
    exact of_mem_eq (by simp) (by simp)
  | ret =>
    cases s.execRet_eq.symm.trans h
    exact of_mem_eq (by simp) (by simp)
  | lret =>
    cases s.execLret_eq.symm.trans h
    exact of_mem_eq (by simp) (by simp)
  | _ => cases h; exact of_mem_eq (by simp) (by simp)

theorem step (h : step s = .next t) : OnlyRamChanges s t := by
  rcases s.step_cases h with ⟨-, rfl⟩ | ⟨-, -, u, hu, rfl⟩ | ⟨-, -, i, s1, u, hf, hu, rfl⟩
  · exact sleepStep s
  · have hclear : OnlyRamChanges s (s.setSkipping false) := of_mem_eq rfl rfl
    exact (hclear.trans (skipChain hu)).trans (endStep u _)
  · exact ((fetchInstr hf).trans (exec hu)).trans (endStep u _)

end OnlyRamChanges

/-- Settles O56: whichever way a step goes, every part of it keeps what is not RAM
(`OnlyRamChanges.step`). -/
theorem onlyRamEverChanges : Obligations.OnlyRamEverChanges :=
  fun _ _ a h ha => (OnlyRamChanges.step h).read a ha

/-! ## Frames of a read, a write and a fetch -/

theorem FlagsKept.of_flags_eq {fs : List Flag} {s t : State} (h : t.flags = s.flags) :
    FlagsKept fs s t :=
  fun _ _ _ => by rw [h]

namespace State

variable (s : State)

/-- A read into a register changes no other register, and nothing else that `Kept` lists. -/
theorem kept_setReg_readWord (seg off v : Word) (r3 : Reg) :
    Kept [r3] [] s ((s.readWord seg off).2.setReg r3 v) where
  regs r hr := by rw [reg_setReg_ne _ _ _ _ (List.ne_of_not_mem_cons hr), reg_readWord]
  specials x _ := by cases x <;> simp [State.special]
  asleep := by simp
  iack := by simp
  cfg := by simp
  hwInt := by simp
  skipping := by simp

theorem kept_writeByte (p : Nat) (v : Byte) : Kept [] [] s (s.writeByte p v) where
  regs r _ := s.reg_writeByte p v r
  specials x _ := by cases x <;> simp [State.special]
  asleep := by simp
  iack := by simp
  cfg := by simp
  hwInt := by simp
  skipping := by simp

theorem kept_writeWord (seg off v : Word) : Kept [] [] s (s.writeWord seg off v) where
  regs r _ := s.reg_writeWord seg off v r
  specials x _ := by cases x <;> simp [State.special]
  asleep := by simp
  iack := by simp
  cfg := by simp
  hwInt := by simp
  skipping := by simp

theorem memKeptOutside_writeByte (p : Nat) (v : Byte) :
    MemKeptOutside [p] s (s.writeByte p v) :=
  fun a ha => s.read_writeByte_ne p a v (List.ne_of_not_mem_cons ha)

theorem memKeptOutside_writeWord (seg off v : Word) :
    MemKeptOutside [phys seg off, phys seg (off + 1#16)] s (s.writeWord seg off v) :=
  fun a ha => s.read_writeWord_ne seg off v a (List.ne_of_not_mem_cons ha)
    (List.ne_of_not_mem_cons (List.not_mem_of_not_mem_cons ha))

/-- A byte written to RAM is no access to a device. -/
theorem envKept_writeByte_ram (p : Nat) (v : Byte) (h : s.kind p = .ram) :
    EnvKept s (s.writeByte p v) :=
  ⟨s.devIn_writeByte p v, s.busLog_writeByte_ram p v h, s.draws_writeByte p v⟩

/-- The same of a word. -/
theorem envKept_writeWord_ram (seg off v : Word) (h : s.ramWord seg off) :
    EnvKept s (s.writeWord seg off v) :=
  ⟨s.devIn_writeWord seg off v, s.busLog_writeWord_ram seg off v h, s.draws_writeWord seg off v⟩

/-- The high byte of a word written is at the offset, where RAM is installed. -/
theorem peek_writeWord_hi (seg off v : Word) (h : s.kind (phys seg off) = .ram) :
    (s.writeWord seg off v).peek seg off = hiByte v := by
  have hne : phys seg off ≠ phys seg (off + 1#16) := phys_ne seg (off_ne_succ off)
  rw [State.peek, read_writeWord, if_neg fun e => hne e.1, if_pos ⟨rfl, h⟩]

/-- The low byte of a word written is at the next offset, where RAM is installed. -/
theorem peek_writeWord_lo (seg off v : Word) (h : s.kind (phys seg (off + 1#16)) = .ram) :
    (s.writeWord seg off v).peek seg (off + 1#16) = loByte v := by
  rw [State.peek, read_writeWord, if_pos ⟨rfl, h⟩]

theorem peek_writeByte (seg off : Word) (v : Byte) (h : s.kind (phys seg off) = .ram) :
    (s.writeByte (phys seg off) v).peek seg off = v := by
  rw [State.peek, read_writeByte, if_pos ⟨rfl, h⟩]

/-- PC past one word, modulo 2^16 (10_state.md R15). -/
theorem pc_advancePc : s.advancePc.pc = s.pc + 2#16 := by
  have hsum : BitVec.ofNat 16 (s.pc.toNat + 2) = s.pc + 2#16 :=
    BitVec.eq_of_toNat_eq (by simp)
  rw [← hsum]
  simp only [State.advancePc]
  split <;> rfl

/-- The advance carries into CS exactly when PC passes the last word of the segment, which a fetch
can do at 0xFFFE only (R15). -/
theorem cs_advancePc (h : s.pc ≠ 0xFFFF#16) :
    s.advancePc.cs = if s.pc = 0xFFFE#16 then s.cs + 1#16 else s.cs := by
  have hcarry : 0xFFFF < s.pc.toNat + 2 ↔ s.pc = 0xFFFE#16 := by bv_omega
  simp only [State.advancePc, hcarry]
  split <;> rfl

theorem onlyChanges_advancePc : OnlyChanges [] [] [.pc, .cs] s s.advancePc where
  kept :=
    { regs := fun r _ => s.reg_advancePc r
      specials := fun x hx => by
        cases x with
        | pc | cs => simp at hx
        | ds | ss | is | ia | y => simp [State.special]
      asleep := by simp
      iack := by simp
      cfg := by simp
      hwInt := by simp
      skipping := by simp }
  flags := .of_flags_eq (by simp)
  mem a := by rw [mem_advancePc]
  env := ⟨by simp, by simp, by simp⟩

/-- A skip whose first word stands at PC = 0xFFFF is refused like a fetch (log 10). -/
theorem skipChain_straddling (fuel : Nat) (h : s.pc = 0xFFFF#16) :
    State.skipChain (fuel + 1) s = .refused .straddlingFetch := by
  simp [skipChain_succ, State.skipInstr, State.fetch16, h]

end State

open State

/-! ## What a read and a write do at each kind of location (R45, R46) -/

/-- Settles O8: `readByte` by the kind of the location, and `readWord` as two of it. -/
theorem readAnswersByKind : Obligations.ReadAnswersByKind := by
  refine ⟨readByte_of_holds, fun s p d h => ?_, fun s p h => ?_, readWord_of_holdsWord,
    fun _ _ _ => rfl⟩
  · simp [State.readByte, h]
  · exact ⟨Config.freeByte s.draws, by simp [State.readByte, h]⟩

/-- Settles O9: `writeByte` by the kind of the location, and the two bytes of `writeWord`. -/
theorem writeGoesByKind : Obligations.WriteGoesByKind := by
  refine ⟨fun s p v h => ⟨?_, s.memKeptOutside_writeByte p v, s.busLog_writeByte_ram p v h⟩,
    fun s p v h => ?_, fun s p d v h => ⟨fun a => ?_, ?_⟩,
    fun s seg off v h => ⟨s.peek_writeWord_hi seg off v h.1, s.peek_writeWord_lo seg off v h.2⟩⟩
  · rw [read_writeByte, if_pos ⟨rfl, h⟩]
  · rcases h with h | h <;> simp [State.writeByte, h]
  · simp [mem_writeByte, h]
  · simp [busLog_writeByte, State.handed, h]

/-! ## The fetch (R48, R49) -/

/-- A step of the awake core with PC = 0xFFFF is refused, whether it fetches an instruction or goes on
with a skip. -/
theorem step_straddling {s : State} (ha : s.asleep = false) (h : s.pc = 0xFFFF#16) :
    step s = .refused .straddlingFetch := by
  unfold step
  rw [ha]
  cases hs : s.skipping with
  | true => -- `skipFuel` is 0xFFFFF + 1
    have hskip : s.resumeSkip = .refused .straddlingFetch :=
      (s.setSkipping false).skipChain_straddling 0xFFFFF h
    simp [hskip, endOutcome]
  | false => simp [State.fetchInstr, State.fetch16, h]

/-- Settles O12: `fetch16` on either side of PC = 0xFFFF, with `advancePc` for what it changes. -/
theorem fetchAdvancesOrIsRefused : Obligations.FetchAdvancesOrIsRefused := by
  refine ⟨fun s h => ?_, fun s ha h => step_straddling ha h, fun s h hw => ?_⟩
  · rcases s.fetch16_cases with ⟨-, e⟩ | ⟨hne, -⟩
    · exact e
    · exact absurd h hne
  · exact ⟨s.advancePc, s.fetch16_of_holdsWord h hw, s.pc_advancePc, s.cs_advancePc h,
      s.onlyChanges_advancePc⟩

/-! ## Loads and stores (40_ram.md R100, R101, R103, R104) -/

section
variable {s : State} {i : Instr} {r1 r3 : Reg} {b seg off : Word}

/-- The offset of a load or store is the spec's sum modulo 2^16 (R100). -/
theorem dataOff_eq_of_toNat (h : off.toNat = ((s.reg r1).toNat + b.toNat) % 2 ^ 16) :
    s.dataOff r1 b = off :=
  BitVec.eq_of_toNat_eq (by rw [h]; exact BitVec.toNat_add ..)

/-! Each instruction at its effective address SEG:off, in either form of its index. -/

variable (hseg : seg = if r1 = 14#4 ∨ r1 = 15#4 then s.ss else s.ds)
  (hoff : off.toNat = ((s.reg r1).toNat + b.toNat) % 2 ^ 16)
include hseg hoff

theorem exec_load
    (hi : OperandForm s (fun r2 => .loadReg r1 r2 r3) (fun l => .loadLit r1 l r3) i b) :
    exec i s = .next ((s.readWord seg off).2.setReg r3 (s.readWord seg off).1) := by
  obtain rfl := dataOff_eq_of_toNat hoff
  rcases hi with ⟨r, rfl, rfl⟩ | ⟨l, rfl, rfl⟩ <;> subst hseg <;> rfl

theorem exec_store
    (hi : OperandForm s (fun r2 => .storeReg r1 r2 r3) (fun l => .storeLit r1 l r3) i b) :
    exec i s = .next (s.writeWord seg off (s.reg r3)) := by
  obtain rfl := dataOff_eq_of_toNat hoff
  rcases hi with ⟨r, rfl, rfl⟩ | ⟨l, rfl, rfl⟩ <;> subst hseg <;> rfl

theorem exec_storeByte
    (hi : OperandForm s (fun r2 => .storeBReg r1 r2 r3) (fun l => .storeBLit r1 l r3) i b) :
    exec i s = .next (s.writeByte (phys seg off) (loByte (s.reg r3))) := by
  obtain rfl := dataOff_eq_of_toNat hoff
  rcases hi with ⟨r, rfl, rfl⟩ | ⟨l, rfl, rfl⟩ <;> subst hseg <;> rfl

end

/-- Settles O22: LOAD is one `readWord` at SEG:off and one `setReg` (`exec_load`). -/
theorem loadReadsWordAtEffectiveAddress : Obligations.LoadReadsWordAtEffectiveAddress := by
  intro s i r1 r3 b seg off hi hseg hoff
  refine ⟨_, exec_load hseg hoff hi, reg_setReg_same .., ⟨rfl, rfl, rfl⟩,
    s.kept_setReg_readWord .., .of_flags_eq (by simp), fun a => by simp, fun hw => ?_⟩
  rw [s.readWord_of_holdsWord _ _ hw]
  exact ⟨reg_setReg_same .., rfl, rfl, rfl⟩

/-- Settles O24: STORE is one `writeWord` at SEG:off (`exec_store`). -/
theorem storeWritesWordAtEffectiveAddress : Obligations.StoreWritesWordAtEffectiveAddress := by
  intro s i r1 r3 b seg off hi hseg hoff
  exact ⟨_, exec_store hseg hoff hi, s.peek_writeWord_hi _ _ _, s.peek_writeWord_lo _ _ _,
    fun a => s.read_writeWord_not_ram _ _ _ a, s.memKeptOutside_writeWord _ _ _,
    s.busLog_writeWord _ _ _, s.devIn_writeWord _ _ _, s.draws_writeWord _ _ _,
    s.kept_writeWord _ _ _, .of_flags_eq (s.flags_writeWord _ _ _), s.envKept_writeWord_ram _ _ _⟩

/-- Settles O25: STORE.B is one `writeByte` at SEG:off (`exec_storeByte`). -/
theorem storeByteWritesOneByte : Obligations.StoreByteWritesOneByte := by
  intro s i r1 r3 b seg off hi hseg hoff
  exact ⟨_, exec_storeByte hseg hoff hi,
    fun hram => ⟨s.peek_writeByte _ _ _ hram, s.envKept_writeByte_ram _ _ hram⟩,
    s.read_writeByte_not_ram _ _ _, s.busLog_writeByte _ _, s.devIn_writeByte _ _,
    s.draws_writeByte _ _, s.memKeptOutside_writeByte _ _, s.kept_writeByte _ _,
    .of_flags_eq (s.flags_writeByte _ _)⟩

end Sys2Proof.Machine
end

section
/-! PROOFS, the family of 30_encoding.md: the decoder and the encoder are inverse to each other on
well-formed instructions (R82 to R86), and the first word alone tells how long an instruction is (R81). -/

namespace Sys2Proof

/-! ## From an instruction to its words

Every instruction has one of two forms (R78). A register form is one word that decodes to it, whatever
follows. A literal form is an instruction for each literal, and a first word for each value of the
literal field; that word decodes to the instruction of the literal which the field and the next word
stand for. -/

/-- The form of an instruction in the opcode map: its words, and what its first word decodes to. -/
inductive Instr.Form : Instr → Prop
  | plain {i : Instr} (w : Word) (hlit : i.lit? = none) (henc : encode i = [w])
      (hdec : ∀ x, decodeWords w x = .ok i) : Form i
  | literal {c : Lit → Instr} (l : Lit) (w : BitVec 4 → Word) (hlit : ∀ l, (c l).lit? = some l)
      (henc : ∀ l, encode (c l) = w l.field :: l.tail)
      (hdec : ∀ f x, decodeWords (w f) x = .ok (c (litOf f x))) : Form (c l)

namespace Instr.Form

variable {c : Lit → Instr} {r1 r3 : Reg} (l : Lit) (hlit : ∀ l, (c l).lit? = some l)
include hlit

/-! A literal form is known by its row in the table of its format. -/

theorem literalP3 {op : BitVec 4} (henc : ∀ l, encode (c l) = wordP3 op r1 l.field r3 :: l.tail)
    (hop : 8 ≤ op.toNat) (hdec : ∀ f x, decodeP3 op.toNat r1 f r3 x = c (litOf f x)) :
    Form (c l) :=
  .literal l (wordP3 op r1 · r3) hlit henc fun f x => by
    rw [decodeWords_wordP3 op r1 f r3 x hop, hdec]

theorem literalP2 {op : BitVec 8} (henc : ∀ l, encode (c l) = wordP2 op l.field r3 :: l.tail)
    (hop : 0x40 ≤ op.toNat) (hop' : op.toNat < 0x80)
    (hdec : ∀ f w x, decodeP2 op.toNat f r3 w x = .ok (c (litOf f x))) : Form (c l) :=
  .literal l (wordP2 op · r3) hlit henc fun f x => by
    rw [decodeWords_wordP2 op f r3 x hop hop', hdec]

theorem literalP1 {op : BitVec 12} (henc : ∀ l, encode (c l) = wordP1 op l.field :: l.tail)
    (hop : 0x200 ≤ op.toNat) (hop' : op.toNat < 0x400)
    (hdec : ∀ f w x, decodeP1 op.toNat f w x = .ok (c (litOf f x))) : Form (c l) :=
  .literal l (wordP1 op) hlit henc fun f x => by
    rw [decodeWords_wordP1 op f x hop hop', hdec]

end Instr.Form

/-- Every instruction has a form; the cases are grouped by format (R82 to R86). -/
theorem Instr.form (i : Instr) : i.Form := by
  cases i with
  | loadReg r1 r2 r3 | loadBReg r1 r2 r3 | storeReg r1 r2 r3 | storeBReg r1 r2 r3 =>
    exact .plain _ rfl rfl fun x => decodeWords_wordP3 _ r1 r2 r3 x (by decide)
  | loadLit r1 l r3 | loadBLit r1 l r3 | storeLit r1 l r3 | storeBLit r1 l r3 =>
    apply Form.literalP3 l (fun _ => rfl) (fun _ => rfl) (by decide) (fun _ _ => rfl)
  | addReg r2 r3 | subReg r2 r3 | addc r2 r3 | subbReg r2 r3 | and r2 r3 | or r2 r3 | xor r2 r3
  | sllReg r2 r3 | srlReg r2 r3 | sraReg r2 r3 | rotlReg r2 r3 | rotrReg r2 r3 | umulReg r2 r3
  | udivReg r2 r3 | umodReg r2 r3 | mulReg r2 r3 | divReg r2 r3 | modReg r2 r3 | swp r2 r3 | cpy r2 r3
  | beqReg r2 r3 | bneqReg r2 r3 | bgReg r2 r3 | bgeReg r2 r3 | bugReg r2 r3 | bugeReg r2 r3
  | bbits r2 r3 | bclear r2 r3 | inpReg r2 r3 | outReg r2 r3 | ljmp r2 r3 | lcall r2 r3 =>
    exact .plain _ rfl rfl fun x => decodeWords_wordP2 _ r2 r3 x (by decide) (by decide)
  | addLit l r3 | subLit l r3 | subbLit l r3 | sllLit l r3 | srlLit l r3 | sraLit l r3 | rotlLit l r3
  | rotrLit l r3 | umulLit l r3 | udivLit l r3 | umodLit l r3 | mulLit l r3 | divLit l r3 | modLit l r3
  | set l r3 | beqLit l r3 | bneqLit l r3 | bgLit l r3 | bgeLit l r3 | bugLit l r3 | bugeLit l r3
  | inpLit l r3 | outLit l r3 | jmpAbs l r3 | callAbs l r3 =>
    apply Form.literalP2 l (fun _ => rfl) (fun _ => rfl) (by decide) (by decide) (fun _ _ _ => rfl)
  | not r3 | neg r3 | xchg r3 | sxtbd r3 | push r3 | pop r3 | getpc r3 | setflags r3 | getflags r3
  | setyReg r3 | gety r3 | intReg r3 | setiaReg r3 | getia r3 | setcsReg r3 | getcs r3 | setdsReg r3
  | getds r3 | setssReg r3 | getss r3 | setisReg r3 | getis r3 =>
    exact .plain _ rfl rfl fun x => decodeWords_wordP1 _ r3 x (by decide) (by decide)
  | setyLit l | intLit l | setiaLit l | setcsLit l | setdsLit l | setssLit l | setisLit l =>
    apply Form.literalP1 l (fun _ => rfl) (fun _ => rfl) (by decide) (by decide) (fun _ _ _ => rfl)
  | jmpRel l9 | callRel l9 =>
    exact .plain _ rfl rfl fun x => decodeWords_wordL9 _ l9 x (by decide) (by decide)
  | nop | sleep | ret | lret | rfi | bovf | bocf => exact .plain _ rfl rfl fun _ => rfl

/-! ## The length of an instruction -/

theorem Instr.words_of_lit?_none {i : Instr} (h : i.lit? = none) : i.words = 1 := by
  rw [words, h]

theorem Instr.words_of_lit?_short {i : Instr} {n : BitVec 4} (h : i.lit? = some (.short n)) :
    i.words = 1 := by
  rw [words, h]

theorem Instr.words_of_lit?_ext {i : Instr} {v : Word} (h : i.lit? = some (.ext v)) :
    i.words = 2 := by
  rw [words, h]

theorem Instr.words_eq (i : Instr) : i.words = 2 ∨ i.words = 1 := by
  unfold words; split
  · exact .inl rfl
  · exact .inr rfl

theorem Instr.words_eq_two_iff (i : Instr) : i.words = 2 ↔ ∃ v, i.lit? = some (.ext v) := by
  unfold words; split
  next v h => exact iff_of_true rfl ⟨v, h⟩
  next h => exact iff_of_false (by decide) fun ⟨v, hv⟩ => h v hv

/-! ## The decoder on a list of bytes -/

theorem decode_oneWord {w : Word} {i : Instr} (rest : List Byte) (hdec : decodeWords w 0#16 = .ok i)
    (hlen : i.words = 1) : decode (bytesOf [w] ++ rest) = .ok (i, rest) := by
  simp [bytesOf, decode, hdec, hlen]

theorem decode_twoWords {w x : Word} {i j : Instr} (rest : List Byte)
    (hfirst : decodeWords w 0#16 = .ok j) (hlen : j.words ≠ 1) (hdec : decodeWords w x = .ok i) :
    decode (bytesOf [w, x] ++ rest) = .ok (i, rest) := by
  simp [bytesOf, decode, hfirst, hlen, hdec]

/-- What bytes that decode are: the two cases of `decode_oneWord` and `decode_twoWords`. -/
theorem words_of_decode {bytes rest : List Byte} {i : Instr} (h : decode bytes = .ok (i, rest)) :
    (∃ w, bytes = bytesOf [w] ++ rest ∧ decodeWords w 0#16 = .ok i ∧ i.words = 1) ∨
    ∃ w x j, bytes = bytesOf [w, x] ++ rest ∧ decodeWords w 0#16 = .ok j ∧ j.words ≠ 1 ∧
      decodeWords w x = .ok i := by
  unfold decode at h
  split at h
  case h_2 => cases h
  next b0 b1 tl =>
    split at h
    · cases h
    next j hfirst =>
      split at h
      next hlen =>
        cases h
        exact .inl ⟨joinBytes b0 b1, by simp [bytesOf], hfirst, hlen⟩
      next hlen =>
        split at h
        case h_2 => cases h
        next b2 b3 tl' =>
          split at h
          · cases h
          next hdec =>
            cases h
            exact .inr ⟨joinBytes b0 b1, joinBytes b2 b3, j, by simp [bytesOf], hfirst, hlen, hdec⟩

/-- Settles O2: by the instruction's form, then by its literal. For an extension word the decoder looks
at the first word twice, first with 0 behind it, which still tells that there are two words. -/
theorem decodeInvertsEncode : Obligations.DecodeInvertsEncode := by
  intro i rest hwf
  unfold encodeBytes
  cases i.form with
  | plain w hlit henc hdec =>
    rw [henc]
    exact decode_oneWord rest (hdec 0#16) (Instr.words_of_lit?_none hlit)
  | literal l w hlit henc hdec =>
    rw [henc]
    cases l with
    | short n =>
      have hn : n ≠ 15#4 := by simpa [Instr.wellFormed, hlit, Lit.wellFormed] using hwf
      refine decode_oneWord rest ?_ (Instr.words_of_lit?_short (hlit _))
      rw [hdec, litOf_field_short n _ hn]
    | ext v =>
      refine decode_twoWords rest (hdec _ 0#16) ?_ ((hdec _ v).trans (by rw [litOf_field_ext]))
      rw [litOf_field_ext, Instr.words_of_lit?_ext (hlit _)]
      decide

/-! ## From words to an instruction -/

/-- The opcodes of the literal forms of format P3 (R82). -/
def litOpcodesP3 : List Nat := [0x8, 0xA, 0xC, 0xE]

/-- The opcodes of the literal forms of format P2 (R83). -/
def litOpcodesP2 : List Nat :=
  [0x41, 0x43, 0x46, 0x4B, 0x4D, 0x4F, 0x51, 0x53, 0x55, 0x57, 0x59, 0x5B, 0x5D,
    0x5F, 0x62, 0x64, 0x66, 0x68, 0x6A, 0x6C, 0x6E, 0x72, 0x74, 0x7E, 0x7F]

/-- The opcodes of the literal forms of format P1 (R84). -/
def litOpcodesP1 : List Nat := [0x20A, 0x20D, 0x20F, 0x212, 0x215, 0x218, 0x21B]

/-- The literal field of a first word, none where the word is not of a literal form; the ranges are
the formats (R77). -/
def litField? (w : Word) : Option (BitVec 4) :=
  if w.toNat < 0x2000 then none
  else if w.toNat < 0x4000 then
    if (w.extractLsb' 4 12).toNat ∈ litOpcodesP1 then some (w.extractLsb' 0 4) else none
  else if w.toNat < 0x8000 then
    if (w.extractLsb' 8 8).toNat ∈ litOpcodesP2 then some (w.extractLsb' 4 4) else none
  else if (w.extractLsb' 12 4).toNat ∈ litOpcodesP3 then some (w.extractLsb' 4 4) else none

/-- The words of an instruction after the first. -/
def Instr.extension (i : Instr) : List Word := (i.lit?.map Lit.tail).getD []

/-- `i` is encoded in the first word `w`, whose literal field, if `i` has a literal, is `f`; an
extension word would be `x`. -/
structure EncodedIn (f : Option (BitVec 4)) (w x : Word) (i : Instr) : Prop where
  lit : i.lit? = f.map (litOf · x)
  enc : encode i = w :: i.extension

section

variable {w x : Word} {i : Instr}

/-! ### What each table decodes to is encoded by the row it came from -/

theorem encodedIn_of_decodeP3 {op : Nat} {r1 f2 r3 : BitVec 4} (hop : 8 ≤ op)
    (hop' : op < 16) (h : decodeP3 op r1 f2 r3 x = i) :
    EncodedIn (if op ∈ litOpcodesP3 then some f2 else none) (wordP3 (.ofNat 4 op) r1 f2 r3) x i := by
  unfold decodeP3 at h; split at h <;> cases h
  case h_8 =>
    obtain rfl : op = 15 := by grind
    exact ⟨rfl, rfl⟩
  all_goals exact ⟨rfl, by simp [encode, Instr.extension, Instr.lit?, field_litOf]⟩

theorem encodedIn_of_decodeP2 {op : Nat} {f2 r3 : BitVec 4}
    (h : decodeP2 op f2 r3 w x = .ok i) :
    EncodedIn (if op ∈ litOpcodesP2 then some f2 else none) (wordP2 (.ofNat 8 op) f2 r3) x i := by
  unfold decodeP2 at h; split at h <;> cases h
  all_goals exact ⟨rfl, by simp [encode, Instr.extension, Instr.lit?, field_litOf]⟩

theorem encodedIn_of_decodeP1 {op : Nat} {f3 : BitVec 4}
    (h : decodeP1 op f3 w x = .ok i) :
    EncodedIn (if op ∈ litOpcodesP1 then some f3 else none) (wordP1 (.ofNat 12 op) f3) x i := by
  unfold decodeP1 at h; split at h
  case h_30 => split at h <;> cases h
  all_goals
    cases h
    exact ⟨rfl, by simp [encode, Instr.extension, Instr.lit?, field_litOf]⟩

theorem encodedIn_of_decodeL9 {op : Nat} {l9 : BitVec 9} (h : decodeL9 op l9 w = .ok i) :
    EncodedIn none (wordL9 (.ofNat 7 op) l9) x i := by
  unfold decodeL9 at h; split at h <;> cases h <;> exact ⟨rfl, rfl⟩

theorem encodedIn_of_decodeP0 (h : decodeP0 w = .ok i) : EncodedIn none w x i := by
  have hself : BitVec.ofNat 16 w.toNat = w := by simp
  unfold decodeP0 at h; split at h
  case h_8 => split at h <;> cases h
  all_goals
    next hw =>
    cases h
    rw [← hself, hw]
    exact ⟨rfl, rfl⟩

/-! ### The table that a word is looked up in, by the range the word lies in (R77) -/

theorem toNat_field (w : Word) (k n : Nat) :
    (w.extractLsb' k n).toNat = w.toNat / 2 ^ k % 2 ^ n := by
  rw [BitVec.extractLsb'_toNat, Nat.shiftRight_eq_div_pow]

theorem decodeWords_P0 (h : w.toNat < 0x1000) : decodeWords w x = decodeP0 w := by
  have : (w.extractLsb' 12 4).toNat = 0 := by rw [toNat_field]; omega
  simp only [decodeWords, this]

theorem decodeWords_L9 (h : 0x1000 ≤ w.toNat) (h' : w.toNat < 0x2000) :
    decodeWords w x = decodeL9 (w.extractLsb' 9 7).toNat (w.extractLsb' 0 9) w := by
  have hop := toNat_field w 9 7
  have := decodeWords_wordL9 (w.extractLsb' 9 7) (w.extractLsb' 0 9) x (by omega) (by omega)
  rwa [wordL9_of_fields] at this

theorem decodeWords_P1 (h : 0x2000 ≤ w.toNat) (h' : w.toNat < 0x4000) :
    decodeWords w x = decodeP1 (w.extractLsb' 4 12).toNat (w.extractLsb' 0 4) w x := by
  have hop := toNat_field w 4 12
  have := decodeWords_wordP1 (w.extractLsb' 4 12) (w.extractLsb' 0 4) x (by omega) (by omega)
  rwa [wordP1_of_fields] at this

theorem decodeWords_P2 (h : 0x4000 ≤ w.toNat) (h' : w.toNat < 0x8000) : decodeWords w x =
    decodeP2 (w.extractLsb' 8 8).toNat (w.extractLsb' 4 4) (w.extractLsb' 0 4) w x := by
  have hop := toNat_field w 8 8
  have := decodeWords_wordP2 (w.extractLsb' 8 8) (w.extractLsb' 4 4) (w.extractLsb' 0 4) x
    (by omega) (by omega)
  rwa [wordP2_of_fields] at this

theorem decodeWords_P3 (h : 0x8000 ≤ w.toNat) : decodeWords w x =
    .ok (decodeP3 (w.extractLsb' 12 4).toNat (w.extractLsb' 8 4) (w.extractLsb' 4 4)
      (w.extractLsb' 0 4) x) := by
  have hop := toNat_field w 12 4
  have := decodeWords_wordP3 (w.extractLsb' 12 4) (w.extractLsb' 8 4) (w.extractLsb' 4 4)
    (w.extractLsb' 0 4) x (by omega)
  rwa [wordP3_of_fields] at this

/-- What a word decodes to is encoded in that word, its literal in the word's literal field. -/
theorem encodedIn_of_decodeWords (h : decodeWords w x = .ok i) : EncodedIn (litField? w) w x i := by
  unfold litField?
  split
  next hlt =>
    rcases lt_or_ge w.toNat 0x1000 with h0 | h0
    · rw [decodeWords_P0 h0] at h
      exact encodedIn_of_decodeP0 h
    · rw [decodeWords_L9 h0 hlt] at h
      simpa only [BitVec.ofNat_toNat, BitVec.setWidth_eq, wordL9_of_fields]
        using encodedIn_of_decodeL9 (x := x) h
  next hge =>
    split
    next hlt =>
      rw [decodeWords_P1 (not_lt.mp hge) hlt] at h
      simpa only [BitVec.ofNat_toNat, BitVec.setWidth_eq, wordP1_of_fields]
        using encodedIn_of_decodeP1 h
    next hge =>
      split
      next hlt =>
        rw [decodeWords_P2 (not_lt.mp hge) hlt] at h
        simpa only [BitVec.ofNat_toNat, BitVec.setWidth_eq, wordP2_of_fields]
          using encodedIn_of_decodeP2 h
      next hge =>
        have hop := toNat_field w 12 4
        rw [decodeWords_P3 (not_lt.mp hge)] at h
        simpa only [BitVec.ofNat_toNat, BitVec.setWidth_eq, wordP3_of_fields]
          using encodedIn_of_decodeP3 (by omega) (BitVec.isLt _) (Except.ok.inj h)

/-! ### What is encoded in a word -/

namespace EncodedIn

variable {f : Option (BitVec 4)} (h : EncodedIn f w x i)
include h

theorem wellFormed : i.wellFormed = true := by
  cases f with
  | none => simp [Instr.wellFormed, h.lit]
  | some f => simp [Instr.wellFormed, h.lit, litOf_wellFormed]

/-- Two words exactly when the literal field is the escape (R78). -/
theorem words_eq_two_iff : i.words = 2 ↔ f = some 15#4 := by
  rw [i.words_eq_two_iff, h.lit]
  cases f with
  | none => simp
  | some f => by_cases hf : f = 15#4 <;> simp [litOf, hf]

theorem encode_oneWord (hlen : i.words = 1) : encode i = [w] := by
  have hf : f ≠ some 15#4 := fun e => by simp [h.words_eq_two_iff.mpr e] at hlen
  rw [h.enc, Instr.extension, h.lit]
  cases f with
  | none => rfl
  | some f => simp_all [litOf, Lit.tail]

theorem encode_twoWords (hlen : i.words = 2) : encode i = [w, x] := by
  rw [h.enc, Instr.extension, h.lit, h.words_eq_two_iff.mp hlen]
  rfl

end EncodedIn

end

/-- Settles O3: the word that was decoded is the first word of what it decodes to
(`encodedIn_of_decodeWords`), and both looks of the decoder at it see one length. -/
theorem encodeInvertsDecode : Obligations.EncodeInvertsDecode := by
  intro bytes rest i h
  unfold encodeBytes
  rcases words_of_decode h with ⟨w, rfl, hdec, hlen⟩ | ⟨w, x, j, rfl, hfirst, hlen, hdec⟩
  · have he := encodedIn_of_decodeWords hdec
    exact ⟨he.wellFormed, by rw [he.encode_oneWord hlen]⟩
  · have he := encodedIn_of_decodeWords hdec
    have hj : j.words = 2 := j.words_eq.resolve_right hlen
    have hi : i.words = 2 :=
      he.words_eq_two_iff.mpr ((encodedIn_of_decodeWords hfirst).words_eq_two_iff.mp hj)
    exact ⟨he.wellFormed, by rw [he.encode_twoWords hi]⟩

/-! ## The first word tells the length (R81) -/

/-- The opcodes of a format lie in its range of words, so at most one disjunct is about `w`. -/
theorem litField?_eq_escape_iff (w : Word) : litField? w = some 15#4 ↔
    (w.toNat / 2 ^ 12 ∈ litOpcodesP3 ∧ w.toNat / 2 ^ 4 % 16 = 15) ∨
    (w.toNat / 2 ^ 8 ∈ litOpcodesP2 ∧ w.toNat / 2 ^ 4 % 16 = 15) ∨
    (w.toNat / 2 ^ 4 ∈ litOpcodesP1 ∧ w.toNat % 16 = 15) := by
  have hw := w.isLt
  have h3 : w.toNat / 2 ^ 12 ∈ litOpcodesP3 → 0x8000 ≤ w.toNat := fun h => by
    have := (by decide : ∀ op ∈ litOpcodesP3, 8 ≤ op) _ h; omega
  have h2 : w.toNat / 2 ^ 8 ∈ litOpcodesP2 → 0x4000 ≤ w.toNat ∧ w.toNat < 0x8000 := fun h => by
    have := (by decide : ∀ op ∈ litOpcodesP2, 0x40 ≤ op ∧ op < 0x80) _ h; omega
  have h1 : w.toNat / 2 ^ 4 ∈ litOpcodesP1 → 0x2000 ≤ w.toNat ∧ w.toNat < 0x4000 := fun h => by
    have := (by decide : ∀ op ∈ litOpcodesP1, 0x200 ≤ op ∧ op < 0x400) _ h; omega
  have e4 : w.extractLsb' 4 4 = 15#4 ↔ w.toNat / 2 ^ 4 % 16 = 15 := by
    rw [← BitVec.toNat_inj, toNat_field]; rfl
  have e0 : w.extractLsb' 0 4 = 15#4 ↔ w.toNat % 16 = 15 := by
    rw [← BitVec.toNat_inj, toNat_field]; simp
  simp only [litField?, toNat_field]
  rw [Nat.mod_eq_of_lt (a := w.toNat / 2 ^ 12) (by omega),
    Nat.mod_eq_of_lt (a := w.toNat / 2 ^ 8) (by omega),
    Nat.mod_eq_of_lt (a := w.toNat / 2 ^ 4) (by omega)]
  split_ifs <;> grind

/-- Settles O6: the length is two exactly when the word's literal field is the escape. -/
theorem firstWordTellsLength : Obligations.FirstWordTellsLength := by
  intro w x i h
  exact ⟨i.words_eq,
    (encodedIn_of_decodeWords h).words_eq_two_iff.trans (litField?_eq_escape_iff w)⟩

/-! ## Words written from the spec -/

/-- Settles O1 by evaluation: the fourteen words are closed terms. -/
theorem specWordsDecode : Obligations.SpecWordsDecode := by
  unfold Obligations.SpecWordsDecode
  decide

end Sys2Proof
end

section
/-! PROOFS, the family of 41_alu.md: division (R117 to R119), the operations bit by bit (R122 to
R126), and the shifts and rotates (R127 to R132). -/

namespace Sys2Proof.Machine

/-! ## Frames, one after the other

An update of the state changes at most one register or flag, and what two updates in a row change is
what either does. -/

theorem Kept.trans {rs rs' : List Reg} {xs xs' : List Special} {s t u : State}
    (h : Kept rs xs s t) (h' : Kept rs' xs' t u) : Kept (rs ++ rs') (xs ++ xs') s u where
  regs r hr := by
    rw [List.mem_append, not_or] at hr
    exact (h'.regs r hr.2).trans (h.regs r hr.1)
  specials x hx := by
    rw [List.mem_append, not_or] at hx
    exact (h'.specials x hx.2).trans (h.specials x hx.1)
  asleep := h'.asleep.trans h.asleep
  iack := h'.iack.trans h.iack
  cfg := h'.cfg.trans h.cfg
  hwInt := h'.hwInt.trans h.hwInt
  skipping := h'.skipping.trans h.skipping

theorem FlagsKept.trans {fs fs' : List Flag} {s t u : State} (h : FlagsKept fs s t)
    (h' : FlagsKept fs' t u) : FlagsKept (fs ++ fs') s u := fun k hk hf =>
  (h' k hk fun f hm => hf f (List.mem_append_right _ hm)).trans
    (h k hk fun f hm => hf f (List.mem_append_left _ hm))

theorem OnlyChanges.trans {rs rs' : List Reg} {fs fs' : List Flag} {xs xs' : List Special}
    {s t u : State} (h : OnlyChanges rs fs xs s t) (h' : OnlyChanges rs' fs' xs' t u) :
    OnlyChanges (rs ++ rs') (fs ++ fs') (xs ++ xs') s u where
  kept := h.kept.trans h'.kept
  flags := h.flags.trans h'.flags
  mem a := (h'.mem a).trans (h.mem a)
  env := by
    obtain ⟨hdev, hlog, hdraws⟩ := h.env
    obtain ⟨hdev', hlog', hdraws'⟩ := h'.env
    exact ⟨hdev'.trans hdev, hlog'.trans hlog, hdraws'.trans hdraws⟩

namespace State

variable (s : State) (r3 : Reg)

theorem onlyChanges_setReg (v : Word) : OnlyChanges [r3] [] [] s (s.setReg r3 v) where
  kept :=
    { regs := fun _ hr => reg_setReg_ne _ _ _ _ (List.ne_of_not_mem_cons hr)
      specials := fun x _ => by cases x <;> rfl
      asleep := rfl
      iack := rfl
      cfg := rfl
      hwInt := rfl
      skipping := rfl }
  flags := .of_flags_eq rfl
  mem _ := rfl
  env := ⟨rfl, rfl, rfl⟩

theorem onlyChanges_setY (v : Word) : OnlyChanges [] [] [.y] s (s.setY v) where
  kept :=
    { regs := fun _ _ => rfl
      specials := fun x hx => by
        cases x with
        | y => simp at hx
        | pc | cs | ds | ss | is | ia => rfl
      asleep := rfl
      iack := rfl
      cfg := rfl
      hwInt := rfl
      skipping := rfl }
  flags := .of_flags_eq rfl
  mem _ := rfl
  env := ⟨rfl, rfl, rfl⟩

theorem onlyChanges_setFlag (f : Flag) (b : Bool) : OnlyChanges [] [f] [] s (s.setFlag f b) where
  kept :=
    { regs := fun _ _ => rfl
      specials := fun x _ => by cases x <;> rfl
      asleep := rfl
      iack := rfl
      cfg := rfl
      hwInt := rfl
      skipping := rfl }
  flags k _ hk := by
    rw [flags_setFlag, getLsbD_withBit _ _ _ _ f.bit_lt, if_neg (hk f (List.mem_singleton_self f))]
  mem _ := rfl
  env := ⟨rfl, rfl, rfl⟩

theorem kept_addDraws (n : Nat) : Kept [] [] s (s.addDraws n) where
  regs _ _ := rfl
  specials x _ := by cases x <;> rfl
  asleep := rfl
  iack := rfl
  cfg := rfl
  hwInt := rfl
  skipping := rfl

theorem onlyChanges_setYReg (p : BitVec 32) : OnlyChanges [r3] [] [.y] s (s.setYReg r3 p) :=
  (s.onlyChanges_setY _).trans (onlyChanges_setReg _ r3 _)

theorem onlyChanges_finishShift (v : Word) (c : Bool) :
    OnlyChanges [r3] [.cf] [] s (s.finishShift r3 v c) :=
  (s.onlyChanges_setReg r3 v).trans (onlyChanges_setFlag _ .cf c)

@[simp] theorem reg_finishShift_same (v : Word) (c : Bool) : (s.finishShift r3 v c).reg r3 = v :=
  reg_setReg_same ..

@[simp] theorem cf_finishShift (v : Word) (c : Bool) : (s.finishShift r3 v c).flag .cf = c := by
  simp [finishShift]

end State

open State

/-! ## The two forms of an instruction -/

/-- Where both forms of an instruction do with their second operand what `f` says, so does the
instruction. -/
theorem OperandForm.exec_eq {s : State} {reg : Reg → Instr} {lit : Lit → Instr} {i : Instr}
    {b : Word} (hi : OperandForm s reg lit i b) (f : Word → State)
    (hreg : ∀ r, exec (reg r) s = .next (f (s.reg r)))
    (hlit : ∀ l, exec (lit l) s = .next (f (litValue l))) : exec i s = .next (f b) := by
  rcases hi with ⟨r, rfl, rfl⟩ | ⟨l, rfl, rfl⟩
  · exact hreg r
  · exact hlit l

/-! ## Division (R117 to R119) -/

section
variable {s : State} {i : Instr} {r3 : Reg} {b : Word}

theorem exec_udiv (hi : OperandForm s (fun r2 => .udivReg r2 r3) (fun l => .udivLit l r3) i b) :
    exec i s = .next (s.divide r3 b (uquot (s.dividend r3) b)) :=
  hi.exec_eq (fun b => s.divide r3 b (uquot (s.dividend r3) b)) (fun _ => rfl) (fun _ => rfl)

theorem exec_div (hi : OperandForm s (fun r2 => .divReg r2 r3) (fun l => .divLit l r3) i b) :
    exec i s = .next (s.divide r3 b (squot (s.dividend r3) b)) :=
  hi.exec_eq (fun b => s.divide r3 b (squot (s.dividend r3) b)) (fun _ => rfl) (fun _ => rfl)

theorem exec_umod (hi : OperandForm s (fun r2 => .umodReg r2 r3) (fun l => .umodLit l r3) i b) :
    exec i s = .next (s.remainder r3 b (urem (s.dividend r3) b)) :=
  hi.exec_eq (fun b => s.remainder r3 b (urem (s.dividend r3) b)) (fun _ => rfl) (fun _ => rfl)

theorem exec_mod (hi : OperandForm s (fun r2 => .modReg r2 r3) (fun l => .modLit l r3) i b) :
    exec i s = .next (s.remainder r3 b (srem (s.dividend r3) b)) :=
  hi.exec_eq (fun b => s.remainder r3 b (srem (s.dividend r3) b)) (fun _ => rfl) (fun _ => rfl)

end

/-- Two halves of a word, as a number. -/
theorem toNat_append_eq {m n : Nat} (x : BitVec m) (y : BitVec n) :
    (x ++ y).toNat = x.toNat * 2 ^ n + y.toNat := by
  rw [BitVec.toNat_append, ← Nat.shiftLeft_add_eq_or_of_lt y.isLt, Nat.shiftLeft_eq]

/-- A 32-bit result is Y and the register side by side. -/
theorem State.y_append_reg_setYReg (s : State) (r3 : Reg) (p : BitVec 32) :
    (s.setYReg r3 p).y ++ (s.setYReg r3 p).reg r3 = p := by
  have hreg : (s.setYReg r3 p).reg r3 = p.extractLsb' 0 16 := reg_setReg_same ..
  rw [hreg]
  exact BitVec.extractLsb'_append_extractLsb'

/-- The unsigned quotient is no greater than the dividend, so it is not cut off. -/
theorem toNat_uquot (d : BitVec 32) (b : Word) : (uquot d b).toNat = d.toNat / b.toNat :=
  Nat.mod_eq_of_lt (Nat.lt_of_le_of_lt (Nat.div_le_self ..) d.isLt)

/-- The signed quotient is that of two 32-bit words. -/
theorem squot_eq_sdiv (d : BitVec 32) (b : Word) : squot d b = d.sdiv (b.signExtend 32) := by
  apply BitVec.eq_of_toInt_eq
  rw [squot, BitVec.toInt_ofInt, BitVec.toInt_sdiv, BitVec.toInt_signExtend_of_le (by decide)]

/-- Only -2^31 / -1 does not fit 32 bits (D12). -/
theorem toInt_squot (d : BitVec 32) (b : Word) (h : ¬(d = 0x80000000#32 ∧ b = 0xFFFF#16)) :
    (squot d b).toInt = d.toInt.tdiv b.toInt := by
  have hext : (b.signExtend 32).toInt = b.toInt := BitVec.toInt_signExtend_of_le (by decide)
  have hne : d ≠ BitVec.intMin 32 ∨ b.signExtend 32 ≠ -1#32 := by
    by_contra! hc
    obtain ⟨hd, hb⟩ := hc
    refine h ⟨hd, BitVec.eq_of_toInt_eq ?_⟩
    rw [← hext, hb]
    decide
  rw [squot_eq_sdiv, BitVec.toInt_sdiv_of_ne_or_ne _ _ hne, hext]

/-- What a division by a divisor that is not 0 leaves, whichever the quotient. -/
theorem divide_frame_of_ne (s : State) (r3 : Reg) {b : Word} (q : BitVec 32) (hb : b ≠ 0#16) :
    (s.divide r3 b q).y ++ (s.divide r3 b q).reg r3 = q ∧ (s.divide r3 b q).flag .de = false ∧
      OnlyChanges [r3] [.de] [.y] s (s.divide r3 b q) := by
  rw [divide_of_ne _ _ _ _ hb]
  exact ⟨s.y_append_reg_setYReg r3 q, by simp,
    (s.onlyChanges_setYReg r3 q).trans (onlyChanges_setFlag _ .de false)⟩

/-- Settles O30: the quotient stands in Y and the register (`divide_frame_of_ne`), and it is the
exact one (`toNat_uquot`, `toInt_squot`). -/
theorem divideGivesQuotientAcrossYAndReg : Obligations.DivideGivesQuotientAcrossYAndReg := by
  intro s i r3 b hb
  refine ⟨fun hi => ?_, fun hi => ?_⟩
  · obtain ⟨hq, hde, hframe⟩ := divide_frame_of_ne s r3 (uquot (s.dividend r3) b) hb
    refine ⟨_, exec_udiv hi, ?_, hde, hframe⟩
    rw [← toNat_append_eq, hq, toNat_uquot, State.dividend, toNat_append_eq]
  · obtain ⟨hq, hde, hframe⟩ := divide_frame_of_ne s r3 (squot (s.dividend r3) b) hb
    refine ⟨_, exec_div hi, fun ⟨hmin, hneg⟩ => ?_, fun hfits => ?_, hde, hframe⟩
    · rw [hq, State.dividend, hmin, hneg]
      decide
    · rw [hq]
      exact toInt_squot _ _ hfits

/-! ### Division by zero (R117) -/

/-- Once the destination `rs`, `xs` holds its `n` free values (log 7), setting DE is all that is
left: the frame of a division error before any interrupt. -/
theorem divisionError_frame {s u t : State} {rs : List Reg} {xs : List Special} {n : Nat}
    (hu : OnlyChanges rs [] xs s u) (ht : t = (u.addDraws n).setFlag .de true) :
    t.flag .de = true ∧ Kept rs xs s t ∧ FlagsKept [.de] s t ∧ MemKept s t ∧
      t.devIn = s.devIn ∧ t.busLog = s.busLog := by
  subst ht
  obtain ⟨hdev, hlog, -⟩ := hu.env
  have hde := (u.addDraws n).onlyChanges_setFlag .de true
  have hkept := (hu.kept.trans (u.kept_addDraws n)).trans hde.kept
  simp only [List.append_nil] at hkept
  exact ⟨by simp, hkept, hu.flags.trans hde.flags, hu.mem, hdev, hlog⟩

/-- Settles O32: `divide` and `remainder` by 0 write free values to their destination, and
`divError` sets DE and takes no interrupt; `divisionError_frame` says what that changes. -/
theorem divisionByZeroSetsDeAndGoesOn : Obligations.DivisionByZeroSetsDeAndGoesOn := by
  intro s i r3 h
  have hnot : s.flag .tde = false ∨ s.gateOpen = false := h.imp_right s.gateOpen_eq_false_iff.mpr
  refine ⟨fun hi => ?_, fun hi => ?_⟩
  · obtain ⟨q, hexec⟩ : ∃ q, exec i s = .next (s.divide r3 0#16 q) :=
      hi.elim (fun hi => ⟨_, exec_udiv hi⟩) fun hi => ⟨_, exec_div hi⟩
    rw [divide_of_zero] at hexec
    exact ⟨_, hexec, divisionError_frame ((s.onlyChanges_setY _).trans (onlyChanges_setReg _ r3 _))
      (divError_of_not_taken _ hnot)⟩
  · obtain ⟨m, hexec⟩ : ∃ m, exec i s = .next (s.remainder r3 0#16 m) :=
      hi.elim (fun hi => ⟨_, exec_umod hi⟩) fun hi => ⟨_, exec_mod hi⟩
    rw [remainder_of_zero] at hexec
    exact ⟨_, hexec, divisionError_frame (s.onlyChanges_setReg r3 _)
      (divError_of_not_taken _ hnot)⟩

/-! ## The operations bit by bit (R122 to R126) -/

/-- Settles O34: each is one `setReg` of the value that the operation on words has. -/
theorem notNegAndLogicWriteNoFlag : Obligations.NotNegAndLogicWriteNoFlag := by
  intro s r2 r3
  have hframe := s.onlyChanges_setReg r3
  refine ⟨⟨_, rfl, hframe _, fun k hk => ?_⟩, ⟨_, rfl, hframe _, ?_⟩,
    ⟨_, rfl, hframe _, fun k => ?_⟩, ⟨_, rfl, hframe _, fun k => ?_⟩,
    ⟨_, rfl, hframe _, fun k => ?_⟩⟩
  · rw [reg_setReg_same, BitVec.getLsbD_not, decide_eq_true hk, Bool.true_and]
  · rw [reg_setReg_same, BitVec.toNat_neg]
    omega
  · rw [reg_setReg_same, BitVec.getLsbD_and]
  · rw [reg_setReg_same, BitVec.getLsbD_or]
  · rw [reg_setReg_same, BitVec.getLsbD_xor]

/-! ## Shifts (R127 to R130) -/

/-- The amount of a shift, in the words of D14. -/
theorem shiftAmount_eq (c : Config) (b : Word) :
    shiftAmount c b = if c.shiftBig = .fullValue then b.toNat else b.toNat % 16 := by
  unfold shiftAmount
  cases c.shiftBig <;> rfl

theorem toNat_sll (a : Word) (n : Nat) : (a <<< n).toNat = a.toNat * 2 ^ n % 2 ^ 16 := by
  rw [BitVec.toNat_shiftLeft, Nat.shiftLeft_eq]

theorem toNat_srl (a : Word) (n : Nat) : (a >>> n).toNat = a.toNat / 2 ^ n := by
  rw [BitVec.toNat_ushiftRight, Nat.shiftRight_eq_div_pow]

theorem toInt_sra (a : Word) (n : Nat) : (a.sshiftRight n).toInt = a.toInt / 2 ^ n := by
  rw [BitVec.toInt_sshiftRight, Int.shiftRight_eq_div_pow]
  norm_cast

/-- Bit 16 of the unbounded product is bit 16 - n of the word, and none where there is no such
bit. -/
theorem sllCarry_eq (a : Word) (n : Nat) : sllCarry a n = (a.toNat * 2 ^ n).testBit 16 := by
  rw [sllCarry, Nat.testBit_mul_two_pow]
  rcases Nat.eq_zero_or_pos n with rfl | hn
  · exact (BitVec.getLsbD_of_ge a 16 (by decide)).symm
  · simp [BitVec.getLsbD, Nat.succ_le_of_lt hn]

theorem srlCarry_iff (a : Word) (n : Nat) :
    srlCarry a n = true ↔ 1 ≤ n ∧ n ≤ 16 ∧ a.toNat.testBit (n - 1) = true := by
  simp [srlCarry, BitVec.getLsbD, and_assoc]

/-- The sign is bit 15. -/
theorem getLsbD_fifteen_iff (a : Word) : a.getLsbD 15 = true ↔ a.toInt < 0 := by
  have h : a.getLsbD 15 = a.msb := rfl
  rw [h, BitVec.msb_eq_toInt, decide_eq_true_iff]

theorem sraCarry_iff (a : Word) (n : Nat) : sraCarry a n = true ↔
    (1 ≤ n ∧ n ≤ 16 ∧ a.toNat.testBit (n - 1) = true) ∨ (16 < n ∧ a.toInt < 0) := by
  unfold sraCarry
  split_ifs with h0 h16
  · simp [h0]
  · simp [BitVec.getLsbD, h16, Nat.one_le_iff_ne_zero.mpr h0, not_lt.mpr h16]
  · rw [getLsbD_fifteen_iff]
    simp [h16, not_le.mp h16]

/-- Settles O35 by `toNat_sll` and `sllCarry_eq`. -/
theorem shiftLeftOnUnboundedIntegers : Obligations.ShiftLeftOnUnboundedIntegers := by
  intro s i r3 b n hi hn
  rw [← shiftAmount_eq] at hn
  subst hn
  exact ⟨_, hi.exec_eq (s.sll r3) (fun _ => rfl) (fun _ => rfl),
    by simp only [State.sll, reg_finishShift_same, toNat_sll],
    by simp only [State.sll, cf_finishShift, sllCarry_eq], s.onlyChanges_finishShift ..⟩

/-- Settles O36 by `toNat_srl` and `srlCarry_iff`. -/
theorem shiftRightLogicalDivides : Obligations.ShiftRightLogicalDivides := by
  intro s i r3 b n hi hn
  rw [← shiftAmount_eq] at hn
  subst hn
  exact ⟨_, hi.exec_eq (s.srl r3) (fun _ => rfl) (fun _ => rfl),
    by simp only [State.srl, reg_finishShift_same, toNat_srl],
    by simp only [State.srl, cf_finishShift, srlCarry_iff], s.onlyChanges_finishShift ..⟩

/-- Settles O37 by `toInt_sra` and `sraCarry_iff`. -/
theorem shiftRightArithmeticFloors : Obligations.ShiftRightArithmeticFloors := by
  intro s i r3 b n hi hn
  rw [← shiftAmount_eq] at hn
  subst hn
  exact ⟨_, hi.exec_eq (s.sra r3) (fun _ => rfl) (fun _ => rfl),
    by simp only [State.sra, reg_finishShift_same, toInt_sra],
    by simp only [State.sra, cf_finishShift, sraCarry_iff], s.onlyChanges_finishShift ..⟩

/-! ## Rotates (R131, R132) -/

/-- A rotate to the left by fewer than 16 places takes bit k to bit k + n modulo 16. -/
theorem getLsbD_rotl (a : Word) {n k : Nat} (hn : n < 16) (hk : k < 16) :
    (rotl a n).getLsbD ((k + n) % 16) = a.getLsbD k := by
  rw [rotl, BitVec.getLsbD_or, BitVec.getLsbD_shiftLeft, BitVec.getLsbD_ushiftRight]
  rcases lt_or_ge (k + n) 16 with h | h
  · have hhigh : a.getLsbD (16 - n + (k + n)) = false := BitVec.getLsbD_of_ge _ _ (by omega)
    simp [Nat.mod_eq_of_lt h, h, hhigh]
  · have hwrap : (k + n) % 16 = k + n - 16 := by omega
    have hlow : k + n - 16 < n := by omega
    have hback : 16 - n + (k + n - 16) = k := by omega
    simp [hwrap, hlow, hback]

/-- A rotate to the right by fewer than 16 places takes bit k from bit k + n modulo 16. -/
theorem getLsbD_rotr (a : Word) {n k : Nat} (hn : n < 16) (hk : k < 16) :
    (rotr a n).getLsbD k = a.getLsbD ((k + n) % 16) := by
  rw [rotr, BitVec.getLsbD_or, BitVec.getLsbD_shiftLeft, BitVec.getLsbD_ushiftRight]
  rcases lt_or_ge (k + n) 16 with h | h
  · have hlow : k < 16 - n := by omega
    simp [Nat.mod_eq_of_lt h, hlow, Nat.add_comm n k]
  · have hwrap : (k + n) % 16 = k - (16 - n) := by omega
    have hhigh : a.getLsbD (n + k) = false := BitVec.getLsbD_of_ge _ _ (by omega)
    have hge : ¬k < 16 - n := by omega
    simp [hwrap, hhigh, hge, hk]

/-- Settles O38 by `getLsbD_rotl` and `getLsbD_rotr`, the amount being the operand modulo 16. -/
theorem rotatesMoveEveryBit : Obligations.RotatesMoveEveryBit := by
  intro s i r3 b
  have hn : rotateAmount b < 16 := Nat.mod_lt _ (by decide)
  have hmod (k : Nat) : (k + b.toNat) % 16 = (k + rotateAmount b) % 16 := (Nat.add_mod_mod ..).symm
  refine ⟨fun hi => ⟨_, hi.exec_eq (fun b => s.setReg r3 (rotl (s.reg r3) (rotateAmount b)))
      (fun _ => rfl) (fun _ => rfl), s.onlyChanges_setReg r3 _, fun k hk => ?_⟩,
    fun hi => ⟨_, hi.exec_eq (fun b => s.setReg r3 (rotr (s.reg r3) (rotateAmount b)))
      (fun _ => rfl) (fun _ => rfl), s.onlyChanges_setReg r3 _, fun k hk => ?_⟩⟩
  · rw [reg_setReg_same, hmod, getLsbD_rotl _ hn hk]
  · rw [reg_setReg_same, hmod, getLsbD_rotr _ hn hk]

end Sys2Proof.Machine
end

section
/-! PROOFS, the family of 42_branch.md: which words are conditional instructions, and what a failed
test passes over (R160, R161), in one step or in several (log 12). -/

namespace Sys2Proof

/-! ## The words of the conditional instructions (R161)

Each table of the decoder says which of its rows are conditional; the ranges of the formats (R77) then
tell the tables apart by the word alone. -/

section

variable {w x : Word} {i : Instr}

theorem isConditional_of_decodeP0 (h : decodeP0 w = .ok i) :
    i.isConditional = true ↔ w.toNat = 0x0008 ∨ w.toNat = 0x0009 := by
  unfold decodeP0 at h; split at h
  case h_8 => split at h <;> cases h
  all_goals
    next hw =>
    cases h
    simp [Instr.isConditional, hw]

theorem isConditional_of_decodeL9 {op : Nat} {l9 : BitVec 9} (h : decodeL9 op l9 w = .ok i) :
    i.isConditional = false := by
  unfold decodeL9 at h; split at h <;> cases h <;> rfl

theorem isConditional_of_decodeP1 {op : Nat} {f3 : BitVec 4} (h : decodeP1 op f3 w x = .ok i) :
    i.isConditional = false := by
  unfold decodeP1 at h; split at h
  case h_30 => split at h <;> cases h
  all_goals cases h; rfl

theorem isConditional_of_decodeP2 {op : Nat} {f2 r3 : BitVec 4} (h : decodeP2 op f2 r3 w x = .ok i) :
    i.isConditional = true ↔ 0x63 ≤ op ∧ op ≤ 0x70 := by
  unfold decodeP2 at h; split at h <;> cases h <;> simp [Instr.isConditional]

theorem isConditional_decodeP3 (op : Nat) (r1 f2 r3 : BitVec 4) (x : Word) :
    (decodeP3 op r1 f2 r3 x).isConditional = false := by
  unfold decodeP3; split <;> rfl

end

/-- Settles O5: by the range the word lies in. Only the tables of P0 and P2 have conditional rows, and
the words of the statement lie in the ranges of these two. -/
theorem conditionalWordsAreExactlyThese : Obligations.ConditionalWordsAreExactlyThese := by
  intro w x i h
  have h8 : w = 0x0008#16 ↔ w.toNat = 0x0008 := BitVec.toNat_inj.symm
  have h9 : w = 0x0009#16 ↔ w.toNat = 0x0009 := BitVec.toNat_inj.symm
  rw [h8, h9]
  rcases lt_or_ge w.toNat 0x1000 with hP0 | hP0
  · rw [decodeWords_P0 hP0] at h
    rw [isConditional_of_decodeP0 h]
    omega
  rcases lt_or_ge w.toNat 0x2000 with hL9 | hL9
  · rw [decodeWords_L9 hP0 hL9] at h
    rw [isConditional_of_decodeL9 h, Bool.false_eq_true, false_iff]
    omega
  rcases lt_or_ge w.toNat 0x4000 with hP1 | hP1
  · rw [decodeWords_P1 hL9 hP1] at h
    rw [isConditional_of_decodeP1 h, Bool.false_eq_true, false_iff]
    omega
  rcases lt_or_ge w.toNat 0x8000 with hP2 | hP2
  · rw [decodeWords_P2 hP1 hP2] at h
    rw [isConditional_of_decodeP2 h, toNat_field]
    omega
  · rw [decodeWords_P3 hP2] at h
    rw [← Except.ok.inj h, isConditional_decodeP3, Bool.false_eq_true, false_iff]
    omega

end Sys2Proof

namespace Sys2Proof.Machine

open State

/-! ## Frames of a skip -/

theorem Kept.trans_same {rs : List Reg} {xs : List Special} {s t u : State} (h : Kept rs xs s t)
    (h' : Kept rs xs t u) : Kept rs xs s u :=
  { h.trans h' with
    regs := fun r hr => (h.trans h').regs r (by simpa using hr)
    specials := fun x hx => (h.trans h').specials x (by simpa using hx) }

theorem OnlyChanges.trans_same {rs : List Reg} {fs : List Flag} {xs : List Special} {s t u : State}
    (h : OnlyChanges rs fs xs s t) (h' : OnlyChanges rs fs xs t u) : OnlyChanges rs fs xs s u :=
  { h.trans h' with
    kept := h.kept.trans_same h'.kept
    flags := fun k hk hf => (h.trans h').flags k hk (by simpa using hf) }

/-- From `s` to `t` nothing differs but PC and CS, and what reading device or absent locations
changes. -/
structure SkipFrame (s t : State) : Prop where
  kept : Kept [] [.pc, .cs] s t
  flags : t.flags = s.flags
  mem : t.mem = s.mem

namespace SkipFrame

theorem refl (s : State) : SkipFrame s s where
  kept :=
    { regs := fun _ _ => rfl
      specials := fun _ _ => rfl
      asleep := rfl
      iack := rfl
      cfg := rfl
      hwInt := rfl
      skipping := rfl }
  flags := rfl
  mem := rfl

variable {s t u : State}

theorem trans (h : SkipFrame s t) (h' : SkipFrame t u) : SkipFrame s u :=
  ⟨h.kept.trans_same h'.kept, h'.flags.trans h.flags, h'.mem.trans h.mem⟩

theorem stepArmed (h : SkipFrame s t) : t.stepArmed = s.stepArmed := by
  simp only [State.stepArmed, State.flag, h.flags]

theorem of_passesOver {i : Instr} (h : PassesOver s i t) : SkipFrame s t := by
  obtain ⟨hregs, hflags, hmem, hy, hia, hds, hss, his, hasleep, hiack, hcfg, hhw, hskip⟩ :=
    s.skipInstr_kept ((s.skipInstr_ok_iff i t).mpr h)
  refine ⟨⟨fun r _ => ?_, fun x hx => ?_, hasleep, hiack, hcfg, hhw, hskip⟩, hflags, hmem⟩
  · simp only [State.reg, hregs]
  · cases x with
    | pc | cs => simp at hx
    | ds => exact hds
    | ss => exact hss
    | is => exact his
    | ia => exact hia
    | y => exact hy

theorem of_passesConditionals {n : Nat} (h : PassesConditionals n s t) : SkipFrame s t := by
  induction h with
  | none s => exact refl s
  | more n s u t i hover hcond hrest ih => exact (of_passesOver hover).trans ih

theorem of_skipsOver {n : Nat} (h : SkipsOver n s t) : SkipFrame s t := by
  obtain ⟨m, u, i, -, hconds, hlast, -⟩ := h
  exact (of_passesConditionals hconds).trans (of_passesOver hlast)

end SkipFrame

/-! ## Where one instruction passed over leaves PC and CS -/

/-- PC past all words of the instruction (10_state.md R15). -/
theorem PassesOver.pc_eq {s t : State} {i : Instr} (h : PassesOver s i t) :
    t.pc = if i.words = 2 then s.pc + 4#16 else s.pc + 2#16 := by
  rcases i.words_eq with hw | hw
  · have htwo : s.pc + 2#16 + 2#16 = s.pc + 4#16 := by rw [BitVec.add_assoc]; rfl
    obtain ⟨-, ht⟩ := h.twoWords (by omega)
    rw [ht, pc_advancePc, pc_advancePc, pc_readWord, htwo, if_pos hw]
  · rw [h.oneWord hw, pc_advancePc, pc_readWord, if_neg (by omega)]

/-- The carry into CS is that of the whole length: since no word is passed over at 0xFFFF, at most one
of the two advances carries, at 0xFFFE. -/
theorem PassesOver.cs_eq {s t : State} {i : Instr} (h : PassesOver s i t) :
    t.cs = if 2 ^ 16 ≤ s.pc.toNat + 2 * i.words then s.cs + 1#16 else s.cs := by
  have hpc := h.pc
  have hfirst : (s.readWord s.cs s.pc).2.advancePc.cs =
      if s.pc = 0xFFFE#16 then s.cs + 1#16 else s.cs := by
    rw [cs_advancePc _ (by simpa using hpc), pc_readWord, cs_readWord]
  rcases i.words_eq with hw | hw
  · obtain ⟨hpc', ht⟩ := h.twoWords (by omega)
    rw [ht, cs_advancePc _ hpc', hfirst, hw]
    rw [pc_advancePc, pc_readWord] at hpc' ⊢
    split_ifs <;> bv_omega
  · rw [h.oneWord hw, hfirst, hw]
    split_ifs <;> bv_omega

/-- In RAM and ROM reading the first word changes nothing, so the frame is that of the advances. -/
theorem PassesOver.onlyChanges {s t : State} {i : Instr} (h : PassesOver s i t)
    (hw : s.holdsWord s.cs s.pc) : OnlyChanges [] [] [.pc, .cs] s t := by
  have hread : (s.readWord s.cs s.pc).2 = s := by rw [s.readWord_of_holdsWord _ _ hw]
  rcases i.words_eq with hlen | hlen
  · obtain ⟨-, ht⟩ := h.twoWords (by omega)
    rw [ht, hread]
    exact s.onlyChanges_advancePc.trans_same (onlyChanges_advancePc _)
  · rw [h.oneWord hlen, hread]
    exact s.onlyChanges_advancePc

/-- An instruction is passed over wherever its words stand before 0xFFFF. -/
theorem exists_passesOver {s : State} {i : Instr} (hpc : s.pc ≠ 0xFFFF#16)
    (hdec : decodeWords (s.readWord s.cs s.pc).1 0#16 = .ok i)
    (htwo : i.words = 2 → s.pc + 2#16 ≠ 0xFFFF#16) : ∃ t, PassesOver s i t := by
  rcases i.words_eq with hw | hw
  · refine ⟨_, hpc, hdec, fun h => by omega, fun _ => ⟨?_, rfl⟩⟩
    rw [pc_advancePc, pc_readWord]
    exact htwo hw
  · exact ⟨_, hpc, hdec, fun _ => rfl, fun h => absurd hw h⟩

/-! ## A skip of any length -/

theorem SkipsOver.single {s t : State} {i : Instr} (hover : PassesOver s i t)
    (hcond : i.isConditional = false) : SkipsOver 1 s t :=
  ⟨0, s, i, rfl, .none s, hover, hcond⟩

theorem SkipsOver.cons {n : Nat} {s u t : State} {i : Instr} (hover : PassesOver s i u)
    (hcond : i.isConditional = true) (h : SkipsOver n u t) : SkipsOver (n + 1) s t := by
  obtain ⟨m, v, j, rfl, hconds, hlast, hj⟩ := h
  exact ⟨m + 1, v, j, rfl, .more m s u v i hover hcond hconds, hlast, hj⟩

/-- A chain of conditional instructions, cut anywhere. -/
theorem PassesConditionals.split {m n : Nat} {s t : State} (h : PassesConditionals (m + n) s t) :
    ∃ u, PassesConditionals m s u ∧ PassesConditionals n u t := by
  induction m generalizing s with
  | zero => exact ⟨s, .none s, by simpa using h⟩
  | succ m ih =>
    rw [Nat.succ_add] at h
    cases h with
    | more _ _ v _ i hover hcond hrest =>
      obtain ⟨u, hfst, hsnd⟩ := ih hrest
      exact ⟨u, .more m s v u i hover hcond hfst, hsnd⟩

/-- A skip, cut anywhere in front of its last instruction: the part in front is all conditional. -/
theorem SkipsOver.split {m n : Nat} {s t : State} (h : SkipsOver n s t) (hn : m < n) :
    ∃ u, PassesConditionals m s u ∧ SkipsOver (n - m) u t := by
  obtain ⟨k, v, i, rfl, hconds, hlast, hi⟩ := h
  obtain ⟨d, rfl⟩ := Nat.exists_eq_add_of_le (Nat.le_of_lt_succ hn)
  obtain ⟨u, hfst, hsnd⟩ := hconds.split
  exact ⟨u, hfst, d, v, i, by omega, hsnd, hlast, hi⟩

/-! ### What `skipChain` answers is the skip as a relation -/

/-- Conditional instructions in front use up fuel and nothing else. -/
theorem skipChain_of_passesConditionals {n : Nat} {s u : State} (h : PassesConditionals n s u)
    (fuel : Nat) : State.skipChain (n + fuel) s = State.skipChain fuel u := by
  induction h with
  | none s => rw [Nat.zero_add]
  | more n s u t i hover hcond hrest ih =>
    rw [Nat.succ_add, skipChain_succ, (s.skipInstr_ok_iff i u).mpr hover]
    simpa [hcond] using ih

theorem skipChain_of_skipsOver {n fuel : Nat} {s t : State} (h : SkipsOver n s t) (hn : n ≤ fuel) :
    State.skipChain fuel s = .next t := by
  obtain ⟨m, u, i, rfl, hconds, hlast, hi⟩ := h
  obtain ⟨d, rfl⟩ := Nat.exists_eq_add_of_le hn
  rw [Nat.add_assoc, Nat.add_comm 1 d, skipChain_of_passesConditionals hconds, skipChain_succ,
    (u.skipInstr_ok_iff i t).mpr hlast]
  simp [hi]

/-- Either the fuel lasts for the whole skip, or it is all used on conditional instructions and the
skip is on its way. -/
theorem skipChain_eq_next_iff {fuel : Nat} {s t : State} : State.skipChain fuel s = .next t ↔
    (∃ n, n ≤ fuel ∧ SkipsOver n s t) ∨
      ∃ u, PassesConditionals fuel s u ∧ t = u.setSkipping true := by
  constructor
  · intro h
    induction fuel generalizing s with
    | zero => cases h; exact .inr ⟨s, .none s, rfl⟩
    | succ fuel ih =>
      rw [skipChain_succ] at h
      split at h
      · cases h
      next i s1 hi =>
        have hover := (s.skipInstr_ok_iff i s1).mp hi
        split at h
        next hcond =>
          rcases ih h with ⟨n, hn, hskip⟩ | ⟨u, hconds, ht⟩
          · exact .inl ⟨n + 1, by omega, hskip.cons hover hcond⟩
          · exact .inr ⟨u, .more fuel s s1 u i hover hcond hconds, ht⟩
        next hcond =>
          cases h
          exact .inl ⟨1, by omega, .single hover (by simpa using hcond)⟩
  · rintro (⟨n, hn, hskip⟩ | ⟨u, hconds, rfl⟩)
    · exact skipChain_of_skipsOver hskip hn
    · rw [← u.skipChain_zero, ← skipChain_of_passesConditionals hconds 0, Nat.add_zero]

/-! ## The test (R160) -/

/-- Every conditional instruction is `conditional` of the truth of its test. -/
theorem TestOf.exec_eq {s : State} {i : Instr} {P : Prop} (h : TestOf s i P) :
    ∃ b, (b = true ↔ P) ∧ exec i s = s.conditional b := by
  cases h with
  | bovf | bocf => exact ⟨_, Iff.rfl, rfl⟩
  | _ => exact ⟨_, decide_eq_true_iff, rfl⟩

theorem TestOf.exec_of_not {s : State} {i : Instr} {P : Prop} (h : TestOf s i P) (hP : ¬P) :
    exec i s = State.skipChain skipFuel s := by
  obtain ⟨b, hb, hexec⟩ := h.exec_eq
  rw [hexec, Bool.eq_false_iff.mpr (mt hb.mp hP), conditional_false]

theorem skipFuel_eq : skipFuel = 2 ^ 20 := by norm_num [skipFuel]

/-- Settles O44: the skip is over one instruction, and `PassesOver` says where it leaves PC and CS. -/
theorem testThatFailsSkipsNextInstruction : Obligations.TestThatFailsSkipsNextInstruction := by
  intro s i j P htest hP hpc hw hdec hj htwo
  obtain ⟨t, hover⟩ := exists_passesOver hpc (by rwa [s.readWord_of_holdsWord _ _ hw]) htwo
  refine ⟨t, ?_, hover.pc_eq, hover.cs_eq, hover.onlyChanges hw⟩
  rw [htest.exec_of_not hP]
  exact skipChain_of_skipsOver (.single hover hj) (by norm_num [skipFuel])

/-! ## A skip on its way (log 12) -/

section

variable {s t u : State}

theorem setSkipping_eq_self {b : Bool} (h : s.skipping = b) : s.setSkipping b = s := by
  subst h; rfl

theorem step_of_skipping (ha : s.asleep = false) (hs : s.skipping = true) :
    step s = endOutcome s.stepArmed (State.skipChain skipFuel (s.setSkipping false)) := by
  simp [step, ha, hs, State.resumeSkip]

/-- A skip whose rest one step can pass ends in it, with the boundary. -/
theorem step_of_skipsOver {n : Nat} (ha : s.asleep = false) (hs : s.skipping = true)
    (h : SkipsOver n (s.setSkipping false) t) (hn : n ≤ 2 ^ 20) :
    step s = .next (t.boundary s.stepArmed) := by
  have ht : t.skipping = false := (SkipFrame.of_skipsOver h).kept.skipping
  rw [step_of_skipping ha hs, skipChain_of_skipsOver h (hn.trans_eq skipFuel_eq.symm), endOutcome,
    t.endStep_of_not_skipping _ ht]

/-- A skip that one step does not pass goes on after it, without a boundary. -/
theorem step_of_passesConditionals (ha : s.asleep = false) (hs : s.skipping = true)
    (h : PassesConditionals (2 ^ 20) (s.setSkipping false) u) :
    step s = .next (u.setSkipping true) := by
  rw [step_of_skipping ha hs, skipFuel_eq, skipChain_eq_next_iff.mpr (.inr ⟨u, h, rfl⟩), endOutcome,
    endStep_of_skipping _ _ (skipping_setSkipping u true)]

/-- A skip of `n` instructions takes `n / 2^20` steps, rounded up: by induction on the number of the
steps that do not end it. -/
theorem run_of_skipsOver {n : Nat} (ha : s.asleep = false) (hs : s.skipping = true)
    (h : SkipsOver n (s.setSkipping false) t) :
    core.run ((n - 1) / 2 ^ 20 + 1) s = .next (t.boundary s.stepArmed) := by
  induction hk : (n - 1) / 2 ^ 20 generalizing s n with
  | zero => exact s.run_of_step (step_of_skipsOver ha hs h (by omega))
  | succ k ih =>
    obtain ⟨u, hconds, hrest⟩ := h.split (m := 2 ^ 20) (by omega)
    have hframe := SkipFrame.of_passesConditionals hconds
    have hu : (u.setSkipping true).setSkipping false = u := setSkipping_eq_self hframe.kept.skipping
    rw [s.run_of_step (step_of_passesConditionals ha hs hconds),
      ih (s := u.setSkipping true) (n := n - 2 ^ 20) (hframe.kept.asleep.trans ha) rfl (by rwa [hu])
        (by omega)]
    exact congrArg (fun b => Host.Outcome.next (t.boundary b)) hframe.stepArmed

end

/-- Settles O45: `skipChain` as a relation for the step of the test itself, `run_of_skipsOver` for the
steps after it, and the frame of a skip. -/
theorem testThatFailsPassesWholeChain : Obligations.TestThatFailsPassesWholeChain := by
  refine ⟨fun s i P htest hP t => ?_, fun s t n ha hs h => run_of_skipsOver ha hs h,
    fun s t n h => ?_⟩
  · rw [htest.exec_of_not hP, skipFuel_eq]
    exact skipChain_eq_next_iff
  · obtain ⟨hkept, hflags, hmem⟩ := SkipFrame.of_skipsOver h
    exact ⟨hkept, .of_flags_eq hflags, fun a => by rw [hmem]⟩

end Sys2Proof.Machine
end

section
/-! PROOFS, the family of 43_register.md: what SWP, CPY, SET, XCHG and SXTBD write (R180 to R184). -/

namespace Sys2Proof.Machine

open State

/-! ## Wider frames -/

theorem Kept.mono {rs rs' : List Reg} {xs xs' : List Special} {s t : State} (h : Kept rs xs s t)
    (hrs : rs ⊆ rs') (hxs : xs ⊆ xs') : Kept rs' xs' s t :=
  { h with
    regs := fun r hr => h.regs r (mt (@hrs r) hr)
    specials := fun x hx => h.specials x (mt (@hxs x) hx) }

theorem FlagsKept.mono {fs fs' : List Flag} {s t : State} (h : FlagsKept fs s t) (hfs : fs ⊆ fs') :
    FlagsKept fs' s t :=
  fun k hk hf => h k hk fun f hm => hf f (hfs hm)

theorem OnlyChanges.mono {rs rs' : List Reg} {fs fs' : List Flag} {xs xs' : List Special}
    {s t : State} (h : OnlyChanges rs fs xs s t) (hrs : rs ⊆ rs') (hfs : fs ⊆ fs')
    (hxs : xs ⊆ xs') : OnlyChanges rs' fs' xs' s t :=
  { h with
    kept := h.kept.mono hrs hxs
    flags := h.flags.mono hfs }

/-! ## The values written -/

/-- After SWP's two writes REG3 holds what REG2 held; where both are one register, that is the value
of the second write (R180). -/
theorem State.reg_setReg_setReg_swap (s : State) (r2 r3 : Reg) :
    ((s.setReg r3 (s.reg r2)).setReg r2 (s.reg r3)).reg r3 = s.reg r2 := by
  by_cases h : r3 = r2
  · rw [h, reg_setReg_same]
  · rw [reg_setReg_ne _ _ _ _ h, reg_setReg_same]

theorem State.onlyChanges_setReg_setReg (s : State) (r q : Reg) (v w : Word) :
    OnlyChanges [q, r] [] [] s ((s.setReg r v).setReg q w) :=
  ((s.onlyChanges_setReg r v).trans (onlyChanges_setReg _ q w)).mono
    (List.reverse_subset.mpr (List.Subset.refl [q, r])) (List.Subset.refl _) (List.Subset.refl _)

/-- A literal of the instruction's own four bits is zero-extended (R182). -/
theorem toNat_litValue_short (n : BitVec 4) : (litValue (.short n)).toNat = n.toNat :=
  BitVec.toNat_setWidth_of_le (by decide)

/-- Settles O39: CPY, SET, XCHG and SXTBD are one `setReg`, whose frame is known, so that the value
written is all that is left; SWP is two, and `reg_setReg_setReg_swap` says that the second does not
undo the first. -/
theorem registerMovesWriteOnlyTheirRegisters : Obligations.RegisterMovesWriteOnlyTheirRegisters := by
  intro s r2 r3 l
  have hframe := s.onlyChanges_setReg r3
  refine ⟨⟨_, rfl, s.reg_setReg_setReg_swap r2 r3, reg_setReg_same .., onlyChanges_setReg_setReg ..⟩,
    ⟨_, rfl, reg_setReg_same .., hframe _⟩,
    ⟨_, rfl, fun n hn => ?short, fun v hv => ?ext, hframe _⟩,
    ⟨_, rfl, ?high, ?low, hframe _⟩, ⟨_, rfl, ?sign, hframe _⟩⟩
  case short => rw [reg_setReg_same, hn, toNat_litValue_short]
  case ext => rw [reg_setReg_same, hv, litValue]
  case high =>
    rw [reg_setReg_same]
    exact hiByte_joinBytes ..
  case low =>
    rw [reg_setReg_same]
    exact loByte_joinBytes ..
  case sign =>
    rw [reg_setReg_same, BitVec.toInt_signExtend_of_le (by decide), loByte]

end Sys2Proof.Machine
end

section
/-! PROOFS, the family of 44_jump.md: absolute and long jumps (R190, R194), the returns (R196,
R197), and that a return undoes the call it matches (R199). -/

namespace Sys2Proof.Machine

open State

/-! ## Frames of the jumps and of the stack -/

theorem EnvKept.trans {s t u : State} (h : EnvKept s t) (h' : EnvKept t u) : EnvKept s u := by
  obtain ⟨hdev, hlog, hdraws⟩ := h
  obtain ⟨hdev', hlog', hdraws'⟩ := h'
  exact ⟨hdev'.trans hdev, hlog'.trans hlog, hdraws'.trans hdraws⟩

/-- Where the registers that may differ are as they were too, every register is. -/
theorem Kept.of_restored {rs : List Reg} {xs : List Special} {s t : State} (h : Kept rs xs s t)
    (hrs : ∀ r ∈ rs, t.reg r = s.reg r) (hxs : ∀ x ∈ xs, t.special x = s.special x) :
    Kept [] [] s t :=
  { h with
    regs := fun r _ => (em (r ∈ rs)).elim (hrs r) (h.regs r)
    specials := fun x _ => (em (x ∈ xs)).elim (hxs x) (h.specials x) }

/-- What is installed where is read from the parameters, which a frame keeps. -/
theorem Kept.holdsWord_iff {rs : List Reg} {xs : List Special} {s t : State} (h : Kept rs xs s t)
    (seg off : Word) : t.holdsWord seg off ↔ s.holdsWord seg off := by
  simp only [State.holdsWord, State.holdsByte, State.kind, h.cfg]

namespace State

variable (s : State)

theorem onlyChanges_setPc (v : Word) : OnlyChanges [] [] [.pc] s (s.setPc v) where
  kept :=
    { regs := fun _ _ => rfl
      specials := fun x hx => by
        cases x with
        | pc => simp at hx
        | cs | ds | ss | is | ia | y => rfl
      asleep := rfl
      iack := rfl
      cfg := rfl
      hwInt := rfl
      skipping := rfl }
  flags := .of_flags_eq rfl
  mem _ := rfl
  env := ⟨rfl, rfl, rfl⟩

theorem onlyChanges_setCs (v : Word) : OnlyChanges [] [] [.cs] s (s.setCs v) where
  kept :=
    { regs := fun _ _ => rfl
      specials := fun x hx => by
        cases x with
        | cs => simp at hx
        | pc | ds | ss | is | ia | y => rfl
      asleep := rfl
      iack := rfl
      cfg := rfl
      hwInt := rfl
      skipping := rfl }
  flags := .of_flags_eq rfl
  mem _ := rfl
  env := ⟨rfl, rfl, rfl⟩

theorem onlyChanges_setCs_setPc (c p : Word) :
    OnlyChanges [] [] [.pc, .cs] s ((s.setCs c).setPc p) :=
  ((s.onlyChanges_setCs c).trans (onlyChanges_setPc _ p)).mono (List.Subset.refl _)
    (List.Subset.refl _) (List.reverse_subset.mpr (List.Subset.refl [Special.pc, .cs]))

theorem kept_push16 (v : Word) : Kept [15] [] s (s.push16 v) where
  regs r hr := s.reg_push16 v r (List.ne_of_not_mem_cons hr)
  specials x _ := by cases x <;> simp [State.special]
  asleep := by simp
  iack := by simp
  cfg := by simp
  hwInt := by simp
  skipping := by simp

theorem kept_pop16 : Kept [15] [] s s.pop16.2 where
  regs r hr := s.reg_pop16 r (List.ne_of_not_mem_cons hr)
  specials x _ := by cases x <;> simp [State.special]
  asleep := by simp
  iack := by simp
  cfg := by simp
  hwInt := by simp
  skipping := by simp

/-- A push to RAM is no access to a device. -/
theorem envKept_push16_ram (v : Word) (h : s.ramWord s.ss (s.sp - 2#16)) :
    EnvKept s (s.push16 v) :=
  ⟨s.devIn_push16 v, s.busLog_push16_ram v h, s.draws_push16 v⟩

/-- A pop from RAM or ROM is no access to a device. -/
theorem envKept_pop16_of_holdsWord (h : s.holdsWord s.ss s.sp) : EnvKept s s.pop16.2 := by
  rw [s.pop16_of_holdsWord h]
  exact ⟨rfl, rfl, rfl⟩

/-- The word on top of the stack stays there when another is pushed. -/
theorem stackWord_push16_above (v : Word) : (s.push16 v).stackWord s.sp = s.stackWord s.sp := by
  have hread (off : Word) (h2 : off ≠ s.sp - 2#16) (h1 : off ≠ s.sp - 1#16) :
      (s.push16 v).mem.read (phys s.ss off) = s.mem.read (phys s.ss off) :=
    s.read_push16_ne v _ (phys_ne _ h2) (phys_ne _ h1)
  exact s.stackWord_congr _ _ (s.cfg_push16 v) (s.ss_push16 v)
    (hread _ (by bv_omega) (by bv_omega)) (hread _ (by bv_omega) (by bv_omega))

/-! ## The pop of PC -/

/-- PC after a pop of it: all that RET does, and the first of the two pops of LRET. -/
def popPc : State := s.pop16.2.setPc s.pop16.1

theorem exec_ret : exec .ret s = .next s.popPc := rfl

theorem exec_lret : exec .lret s = .next (s.popPc.pop16.2.setCs s.popPc.pop16.1) := rfl

@[simp] theorem sp_popPc : s.popPc.reg 15#4 = s.reg 15#4 + 2#16 := s.sp_pop16

@[simp] theorem flags_popPc : s.popPc.flags = s.flags := s.flags_pop16

@[simp] theorem mem_popPc : s.popPc.mem = s.mem := s.mem_pop16

@[simp] theorem ss_popPc : s.popPc.ss = s.ss := s.ss_pop16

theorem stackWord_popPc (off : Word) : s.popPc.stackWord off = s.stackWord off :=
  s.stackWord_congr _ off s.cfg_pop16 s.ss_popPc (by simp) (by simp)

theorem kept_popPc : Kept [15] [.pc] s s.popPc :=
  s.kept_pop16.trans (onlyChanges_setPc _ _).kept

theorem pc_popPc_of_holdsWord (h : s.holdsWord s.ss s.sp) : s.popPc.pc = s.stackWord s.sp :=
  congrArg Prod.fst (s.pop16_of_holdsWord h)

theorem envKept_popPc_of_holdsWord (h : s.holdsWord s.ss s.sp) : EnvKept s s.popPc :=
  s.envKept_pop16_of_holdsWord h

end State

namespace State

variable (s : State)

/-! ## The calls, to any target -/

/-- What either CALL does (R191, R193): the push of PC, then the target in the same segment. -/
def callNear (target : Word) : State := (s.push16 s.pc).setPc target

/-- What LCALL does (R195): the pushes of CS and of PC, then the target in any segment. -/
def callFar (c target : Word) : State :=
  (((s.push16 s.cs).push16 s.pc).setCs c).setPc target

theorem exec_callAbs (l : Lit) (r3 : Reg) :
    exec (.callAbs l r3) s = .next (s.callNear (s.absTarget l r3)) := rfl

theorem exec_callRel (off : BitVec 9) : exec (.callRel off) s =
    .next (s.callNear (BitVec.ofInt 16 (s.pc.toNat + displacement off))) := rfl

theorem exec_lcall (r2 r3 : Reg) :
    exec (.lcall r2 r3) s = .next (s.callFar (s.reg r3) (s.reg r2)) := rfl

section
variable (target : Word)

@[simp] theorem sp_callNear : (s.callNear target).reg 15#4 = s.reg 15#4 - 2#16 := s.sp_push16 s.pc

@[simp] theorem ss_callNear : (s.callNear target).ss = s.ss := s.ss_push16 s.pc

theorem flagsKept_callNear : FlagsKept [] s (s.callNear target) :=
  .of_flags_eq (s.flags_push16 s.pc)

theorem kept_callNear : Kept [15] [.pc] s (s.callNear target) :=
  (s.kept_push16 s.pc).trans (onlyChanges_setPc _ target).kept

theorem envKept_callNear (h : s.ramWord s.ss (s.sp - 2#16)) : EnvKept s (s.callNear target) :=
  s.envKept_push16_ram s.pc h

theorem stackWord_callNear (h : s.ramWord s.ss (s.sp - 2#16)) :
    (s.callNear target).stackWord (s.sp - 2#16) = s.pc := s.stackWord_push16 s.pc h

end

section
variable (c target : Word)

@[simp] theorem sp_callFar : (s.callFar c target).reg 15#4 = s.reg 15#4 - 4#16 := by
  simp [callFar, sub_two_two]

@[simp] theorem ss_callFar : (s.callFar c target).ss = s.ss := by simp [callFar]

theorem flagsKept_callFar : FlagsKept [] s (s.callFar c target) := .of_flags_eq (by simp [callFar])

theorem kept_callFar : Kept [15] [.pc, .cs] s (s.callFar c target) :=
  ((s.kept_push16 s.cs).trans_same (kept_push16 _ s.pc)).trans
    (onlyChanges_setCs_setPc _ c target).kept

/-- SP - 4 is two below SP after the push of CS, where PC is pushed. -/
theorem ramWord_push16 (v : Word) (h : s.ramWord s.ss (s.sp - 4#16)) :
    (s.push16 v).ramWord (s.push16 v).ss ((s.push16 v).sp - 2#16) := by
  simpa [State.ramWord, sub_two_two] using h

theorem envKept_callFar (hcs : s.ramWord s.ss (s.sp - 2#16)) (hpc : s.ramWord s.ss (s.sp - 4#16)) :
    EnvKept s (s.callFar c target) :=
  (s.envKept_push16_ram s.cs hcs).trans (envKept_push16_ram _ s.pc (s.ramWord_push16 s.cs hpc))

theorem stackWord_callFar_pc (h : s.ramWord s.ss (s.sp - 4#16)) :
    (s.callFar c target).stackWord (s.sp - 4#16) = s.pc := by
  have hpush := (s.push16 s.cs).stackWord_push16 s.pc (s.ramWord_push16 s.cs h)
  rwa [sp_eq, sp_push16, sub_two_two] at hpush

theorem stackWord_callFar_cs (h : s.ramWord s.ss (s.sp - 2#16)) :
    (s.callFar c target).stackWord (s.sp - 2#16) = s.cs := by
  have habove := (s.push16 s.cs).stackWord_push16_above s.pc
  rw [sp_eq, sp_push16] at habove
  exact habove.trans (s.stackWord_push16 s.cs h)

end

end State

/-! ## Jumps (R190, R194) -/

/-- Settles O48: JMP absolute is one `setPc`, and LJMP one `setCs` and one `setPc`. -/
theorem absoluteAndLongJumps : Obligations.AbsoluteAndLongJumps := by
  intro s l r2 r3
  exact ⟨⟨_, rfl, BitVec.toNat_add .., s.onlyChanges_setPc _⟩,
    ⟨_, rfl, rfl, rfl, s.onlyChanges_setCs_setPc _ _⟩⟩

/-! ## Returns (R196, R197) -/

/-- Settles O51: RET is `popPc`; LRET pops CS in the state after it, whose stack holds the same
words. -/
theorem returnsPopTheirTarget : Obligations.ReturnsPopTheirTarget := by
  intro s
  refine ⟨⟨_, s.exec_ret, rfl, s.sp_popPc,
      fun h => ⟨s.pc_popPc_of_holdsWord h, s.envKept_popPc_of_holdsWord h⟩,
      s.kept_popPc, .of_flags_eq s.flags_popPc, fun a => by rw [mem_popPc]⟩,
    ⟨_, s.exec_lret, ?pc, ?sp, fun h h' => ?words, ?kept, .of_flags_eq (by simp),
      fun a => by simp⟩⟩
  case pc => exact s.popPc.pc_pop16
  case sp => simp [BitVec.add_assoc]
  case words =>
    have hcs : s.popPc.holdsWord s.popPc.ss s.popPc.sp := by
      rw [s.kept_popPc.holdsWord_iff, ss_popPc, sp_eq, sp_popPc]
      exact h'
    refine ⟨s.popPc.pc_pop16.trans (s.pc_popPc_of_holdsWord h), ?_,
      (s.envKept_popPc_of_holdsWord h).trans (s.popPc.envKept_pop16_of_holdsWord hcs)⟩
    calc s.popPc.pop16.1 = s.popPc.stackWord s.popPc.sp :=
          congrArg Prod.fst (s.popPc.pop16_of_holdsWord hcs)
      _ = s.stackWord (s.sp + 2#16) := by rw [stackWord_popPc, sp_eq, sp_popPc, sp_eq]
  case kept =>
    have hcs : Kept [15] [.cs] s.popPc (s.popPc.pop16.2.setCs s.popPc.pop16.1) :=
      s.popPc.kept_pop16.trans (onlyChanges_setCs _ _).kept
    exact (s.kept_popPc.trans hcs).mono (by simp) (List.Subset.refl _)

/-! ## A return after its call (R199) -/

/-- RET pops the PC that a CALL pushed, whatever the target of the CALL. -/
theorem ret_undoes_callNear (s : State) (target : Word) (hram : s.ramWord s.ss (s.sp - 2#16)) :
    ∃ u, exec .ret (s.callNear target) = .next u ∧
      Kept [] [] s u ∧ FlagsKept [] s u ∧ EnvKept s u := by
  obtain ⟨u, hexec, -, hsp, hword, hkept, hflags, -⟩ :=
    (returnsPopTheirTarget (s.callNear target)).1
  have htop : (s.callNear target).sp = s.sp - 2#16 := s.sp_callNear target
  rw [htop] at hword hsp
  rw [ss_callNear, (s.kept_callNear target).holdsWord_iff] at hword
  obtain ⟨hpc, henv⟩ := hword hram.holds
  refine ⟨u, hexec, ((s.kept_callNear target).trans_same hkept).of_restored ?sp ?pc,
    (s.flagsKept_callNear target).trans hflags, (s.envKept_callNear target hram).trans henv⟩
  case sp => simpa using hsp
  case pc => simpa [State.special] using hpc.trans (s.stackWord_callNear target hram)

/-- LRET pops the PC and the CS that LCALL pushed, whatever the target of LCALL. -/
theorem lret_undoes_callFar (s : State) (c target : Word)
    (hramCs : s.ramWord s.ss (s.sp - 2#16)) (hramPc : s.ramWord s.ss (s.sp - 4#16)) :
    ∃ u, exec .lret (s.callFar c target) = .next u ∧
      Kept [] [] s u ∧ FlagsKept [] s u ∧ EnvKept s u := by
  obtain ⟨u, hexec, -, hsp, hwords, hkept, hflags, -⟩ :=
    (returnsPopTheirTarget (s.callFar c target)).2
  have htop : (s.callFar c target).sp = s.sp - 4#16 := s.sp_callFar c target
  have hnext : s.sp - 4#16 + 2#16 = s.sp - 2#16 := by bv_omega
  rw [htop] at hwords hsp
  simp only [hnext, ss_callFar, (s.kept_callFar c target).holdsWord_iff] at hwords
  obtain ⟨hpc, hcs, henv⟩ := hwords hramPc.holds hramCs.holds
  refine ⟨u, hexec, ((s.kept_callFar c target).trans_same hkept).of_restored ?sp ?pcCs,
    (s.flagsKept_callFar c target).trans hflags,
    (s.envKept_callFar c target hramCs hramPc).trans henv⟩
  case sp => simpa using hsp
  case pcCs =>
    simpa [State.special] using And.intro (hpc.trans (s.stackWord_callFar_pc c target hramPc))
      (hcs.trans (s.stackWord_callFar_cs c target hramCs))

/-- Settles O52: both forms of CALL are `callNear` and LCALL is `callFar`, each undone by its
return. -/
theorem returnUndoesCall : Obligations.ReturnUndoesCall := by
  intro s l r2 r3 off hramCs hramPc
  have hnear (target : Word) := ret_undoes_callNear s target hramCs
  exact ⟨⟨_, (hnear _).imp fun _ h => ⟨s.exec_callAbs l r3, h⟩⟩,
    ⟨_, (hnear _).imp fun _ h => ⟨s.exec_callRel off, h⟩⟩,
    ⟨_, (lret_undoes_callFar s _ _ hramCs hramPc).imp fun _ h => ⟨s.exec_lcall r2 r3, h⟩⟩⟩

end Sys2Proof.Machine
end

section
/-! PROOFS, the family of 46_special.md: the moves between the numbered registers and PC, FLAGS, Y and
IA (R212, R214 to R216, R221, R222), and NOP (R210). -/

namespace Sys2Proof.Machine

open State

/-! ## Frames -/

theorem OnlyChanges.refl (s : State) : OnlyChanges [] [] [] s s where
  kept :=
    { regs := fun _ _ => rfl
      specials := fun _ _ => rfl
      asleep := rfl
      iack := rfl
      cfg := rfl
      hwInt := rfl
      skipping := rfl }
  flags := .of_flags_eq rfl
  mem _ := rfl
  env := ⟨rfl, rfl, rfl⟩

theorem State.onlyChanges_setIa (s : State) (v : Word) :
    OnlyChanges [] [] [.ia] s (s.setIa v) where
  kept :=
    { regs := fun _ _ => rfl
      specials := fun x hx => by
        cases x with
        | ia => simp at hx
        | pc | cs | ds | ss | is | y => rfl
      asleep := rfl
      iack := rfl
      cfg := rfl
      hwInt := rfl
      skipping := rfl }
  flags := .of_flags_eq rfl
  mem _ := rfl
  env := ⟨rfl, rfl, rfl⟩

/-! ## Moves into and out of the registers without a number -/

/-- An instruction that is one `setReg` writes its value to that register and nothing else. -/
theorem writesOnlyReg_of_exec {s : State} {i : Instr} {r3 : Reg} {v : Word}
    (h : exec i s = .next (s.setReg r3 v)) :
    ∃ t, exec i s = .next t ∧ t.reg r3 = v ∧ OnlyChanges [r3] [] [] s t :=
  ⟨_, h, reg_setReg_same .., s.onlyChanges_setReg ..⟩

theorem exec_sety {s : State} {i : Instr} {b : Word}
    (hi : OperandForm s .setyReg .setyLit i b) : exec i s = .next (s.setY b) :=
  hi.exec_eq s.setY (fun _ => rfl) (fun _ => rfl)

theorem exec_setia {s : State} {i : Instr} {b : Word}
    (hi : OperandForm s .setiaReg .setiaLit i b) : exec i s = .next (s.setIa b) :=
  hi.exec_eq s.setIa (fun _ => rfl) (fun _ => rfl)

/-- Settles O40: NOP leaves the state as it is, the four GETs are one `setReg`
(`writesOnlyReg_of_exec`), and SETY and SETIA are one `setY` and one `setIa` of the operand, in either
form (`exec_sety`, `exec_setia`). -/
theorem specialMovesWriteOnlyTheirTarget : Obligations.SpecialMovesWriteOnlyTheirTarget := by
  intro s r3 i b
  refine ⟨⟨s, rfl, .refl s⟩, ?getpc, ?getflags, ?gety, ?getia, fun hi => ?sety, fun hi => ?setia⟩
  case getpc | getflags | gety | getia => exact writesOnlyReg_of_exec rfl
  case sety => exact ⟨_, exec_sety hi, y_setY .., s.onlyChanges_setY b⟩
  case setia => exact ⟨_, exec_setia hi, ia_setIa .., s.onlyChanges_setIa b⟩

end Sys2Proof.Machine
end

section
/-! PROOFS, the family of 60_exceptions.md: the entry and RFI as its inverse (R260, R265), the gate and
the boundary (R254, R261), single-step (R258), the interrupts of the ALU (R257), and the step (R276). -/

namespace Sys2Proof.Machine

open State

/-! ## Memory outside the words pushed -/

theorem MemKeptOutside.trans {as bs : List Nat} {s t u : State} (h : MemKeptOutside as s t)
    (h' : MemKeptOutside bs t u) : MemKeptOutside (as ++ bs) s u := fun a ha => by
  rw [List.mem_append, not_or] at ha
  exact (h' a ha.2).trans (h a ha.1)

namespace State

variable (s : State)

/-- `sp_push16` in the spelling of the statements, which `rw` needs. -/
theorem sp_push (v : Word) : (s.push16 v).sp = s.sp - 2#16 := s.sp_push16 v

theorem memKeptOutside_push16 (v : Word) :
    MemKeptOutside [phys s.ss (s.sp - 1#16), phys s.ss (s.sp - 2#16)] s (s.push16 v) :=
  fun a ha => s.read_push16_ne v a (List.ne_of_not_mem_cons (List.not_mem_of_not_mem_cons ha))
    (List.ne_of_not_mem_cons ha)

theorem memKeptOutside_callFar (c target : Word) :
    MemKeptOutside [phys s.ss (s.sp - 1#16), phys s.ss (s.sp - 2#16), phys s.ss (s.sp - 3#16),
      phys s.ss (s.sp - 4#16)] s (s.callFar c target) := by
  have h := (s.memKeptOutside_push16 s.cs).trans ((s.push16 s.cs).memKeptOutside_push16 s.pc)
  simp only [sp_push, ss_push16, BitVec.sub_sub] at h
  exact h

/-- The word on top of the stack stays there when CS and PC are pushed. -/
theorem stackWord_callFar_above (c target : Word) :
    (s.callFar c target).stackWord s.sp = s.stackWord s.sp := by
  have hread (off : Word) (h : off - s.sp < 2#16) :
      (s.callFar c target).mem.read (phys s.ss off) = s.mem.read (phys s.ss off) := by
    apply s.memKeptOutside_callFar c target
    simp only [List.mem_cons, phys_injective, List.not_mem_nil, or_false, not_or]
    refine ⟨?_, ?_, ?_, ?_⟩ <;> bv_omega
  exact s.stackWord_congr _ _ (s.kept_callFar c target).cfg (s.ss_callFar c target)
    (hread _ (by bv_omega)) (hread _ (by bv_omega))

/-! ## The entry (R260) -/

/-- The entry is a push of R1, then what LCALL to IS:IA does, then IF, IACK, the message and the core
awake. The rules for LCALL therefore say what the entry saves. -/
theorem enter_eq_callFar (m : Word) : s.enter m =
    (((((s.push16 (s.reg 1#4)).callFar s.is s.ia).setFlag .intf true).setIack true).setReg 1#4
      m).setAsleep false := by
  simp [enter, callFar]

theorem stackWord_enter_pc (m : Word) (h : s.ramWord s.ss (s.sp - 6#16)) :
    (s.enter m).stackWord (s.sp - 6#16) = s.pc := by
  have hpc := (s.push16 (s.reg 1#4)).stackWord_callFar_pc s.is s.ia
  rw [sp_push, BitVec.sub_sub, pc_push16, ss_push16] at hpc
  rw [enter_eq_callFar]
  exact hpc (by simpa [State.ramWord] using h)

theorem stackWord_enter_cs (m : Word) (h : s.ramWord s.ss (s.sp - 4#16)) :
    (s.enter m).stackWord (s.sp - 4#16) = s.cs := by
  have hcs := (s.push16 (s.reg 1#4)).stackWord_callFar_cs s.is s.ia
  rw [sp_push, BitVec.sub_sub, cs_push16, ss_push16] at hcs
  rw [enter_eq_callFar]
  exact hcs (by simpa [State.ramWord] using h)

theorem stackWord_enter_reg_one (m : Word) (h : s.ramWord s.ss (s.sp - 2#16)) :
    (s.enter m).stackWord (s.sp - 2#16) = s.reg 1#4 := by
  have habove := (s.push16 (s.reg 1#4)).stackWord_callFar_above s.is s.ia
  rw [sp_push] at habove
  rw [enter_eq_callFar]
  exact habove.trans (s.stackWord_push16 _ h)

theorem memKeptOutside_enter (m : Word) :
    MemKeptOutside [phys s.ss (s.sp - 1#16), phys s.ss (s.sp - 2#16), phys s.ss (s.sp - 3#16),
      phys s.ss (s.sp - 4#16), phys s.ss (s.sp - 5#16), phys s.ss (s.sp - 6#16)] s (s.enter m) := by
  have h := (s.memKeptOutside_push16 (s.reg 1#4)).trans
    ((s.push16 (s.reg 1#4)).memKeptOutside_callFar s.is s.ia)
  simp only [sp_push, ss_push16, BitVec.sub_sub] at h
  rw [enter_eq_callFar]
  exact h

/-- An entry whose frame lies in RAM is no access to a device. -/
theorem envKept_enter (m : Word) (h2 : s.ramWord s.ss (s.sp - 2#16))
    (h4 : s.ramWord s.ss (s.sp - 4#16)) (h6 : s.ramWord s.ss (s.sp - 6#16)) :
    EnvKept s (s.enter m) := by
  have hcall := (s.push16 (s.reg 1#4)).envKept_callFar s.is s.ia
  rw [sp_push, BitVec.sub_sub, BitVec.sub_sub, ss_push16] at hcall
  rw [enter_eq_callFar]
  exact (s.envKept_push16_ram _ h2).trans
    (hcall (by simpa [State.ramWord] using h4) (by simpa [State.ramWord] using h6))

theorem flagsKept_enter (m : Word) : FlagsKept [.intf] s (s.enter m) := by
  have h : FlagsKept [.intf] s (s.setFlag .intf true) := (s.onlyChanges_setFlag .intf true).flags
  exact h.trans (.of_flags_eq (fs := []) (s.flags_enter m))

end State

/-- Settles O15: the saved words and the frame of memory are those of the push and the LCALL that the
entry consists of (`enter_eq_callFar`); the rest is one rule for each field. -/
theorem enterSavesFrameAndVectors : Obligations.EnterSavesFrameAndVectors := by
  intro s m h2 h4 h6
  exact ⟨s.sp_enter m, s.stackWord_enter_pc m h6, s.stackWord_enter_cs m h4,
    s.stackWord_enter_reg_one m h2, s.cs_enter m, s.pc_enter m, s.intf_enter m, s.flagsKept_enter m,
    s.iack_enter m, s.reg_one_enter m, s.asleep_enter m, s.reg_enter m, s.y_enter m, s.ia_enter m,
    s.ds_enter m, s.ss_enter m, s.is_enter m, s.cfg_enter m, s.hwInt_enter m, s.skipping_enter m,
    s.memKeptOutside_enter m, s.envKept_enter m h2 h4 h6⟩

/-! ## RFI (R223), and that it undoes the entry (R265) -/

namespace State

variable (s : State)

/-- RFI pops PC and CS as LRET does, then R1, and clears IF and IACK. -/
theorem leave_eq_of_lret {t : State} (h : exec .lret s = .next t) : s.leave =
    ((t.pop16.2.setReg 1#4 t.pop16.1).setFlag .intf false).setIack false := by
  cases h
  rfl

/-- The three words that RFI pops from RAM or ROM. -/
theorem leave_pops (h0 : s.holdsWord s.ss s.sp) (h2 : s.holdsWord s.ss (s.sp + 2#16))
    (h4 : s.holdsWord s.ss (s.sp + 4#16)) : s.leave.pc = s.stackWord s.sp ∧
      s.leave.cs = s.stackWord (s.sp + 2#16) ∧ s.leave.reg 1#4 = s.stackWord (s.sp + 4#16) := by
  obtain ⟨t, hexec, -, hsp, hwords, hkept, -, hmem⟩ := (returnsPopTheirTarget s).2
  obtain ⟨hpc, hcs, -⟩ := hwords h0 h2
  have hss : t.ss = s.ss := hkept.specials .ss (by simp)
  have hr1 : t.holdsWord t.ss t.sp := by rwa [hkept.holdsWord_iff, hss, hsp]
  rw [s.leave_eq_of_lret hexec, t.pop16_of_holdsWord hr1]
  refine ⟨hpc, hcs, ?_⟩
  calc _ = t.stackWord t.sp := reg_setReg_same ..
    _ = s.stackWord (s.sp + 4#16) := by
      rw [hsp, s.stackWord_congr t _ hkept.cfg hss (hmem _) (hmem _)]

theorem sp_leave : s.leave.sp = s.sp + 6#16 := by
  simp [leave, reg_setReg, BitVec.add_assoc]

theorem flagsKept_leave : FlagsKept [.intf] s s.leave := by
  have h : FlagsKept [.intf] s (s.setFlag .intf false) := (s.onlyChanges_setFlag .intf false).flags
  exact h.trans (.of_flags_eq (fs := []) s.flags_leave)

@[simp] theorem intf_leave : s.leave.flag .intf = false := by
  rw [State.flag, flags_leave, getLsbD_withBit _ _ _ _ (by decide)]
  rfl

/-- PC, CS and R1 after the entry and RFI: RFI pops from where the entry pushed. -/
theorem leave_enter_pops (m : Word) (h2 : s.ramWord s.ss (s.sp - 2#16))
    (h4 : s.ramWord s.ss (s.sp - 4#16)) (h6 : s.ramWord s.ss (s.sp - 6#16)) :
    (s.enter m).leave.pc = s.pc ∧ (s.enter m).leave.cs = s.cs ∧
      (s.enter m).leave.reg 1#4 = s.reg 1#4 := by
  have hsp : (s.enter m).sp = s.sp - 6#16 := s.sp_enter m
  have hcs : s.sp - 6#16 + 2#16 = s.sp - 4#16 := by bv_omega
  have hr1 : s.sp - 6#16 + 4#16 = s.sp - 2#16 := by bv_omega
  have hholds {off : Word} (h : s.ramWord s.ss off) : (s.enter m).holdsWord (s.enter m).ss off := by
    simpa [State.holdsWord, State.holdsByte] using h.holds
  have hpops := (s.enter m).leave_pops
  rw [hsp, hcs, hr1, s.stackWord_enter_pc m h6, s.stackWord_enter_cs m h4,
    s.stackWord_enter_reg_one m h2] at hpops
  exact hpops (hholds h6) (hholds h4) (hholds h2)

end State

/-- Settles O19: PC, CS and R1 come back from the stack (`leave_enter_pops`), SP goes down by six and
up again, and neither the entry nor RFI writes another register. -/
theorem rfiRestoresWhatEntrySaved : Obligations.RfiRestoresWhatEntrySaved := by
  intro s m _ h2 h4 h6
  obtain ⟨hpc, hcs, hr1⟩ := s.leave_enter_pops m h2 h4 h6
  refine ⟨(s.enter m).leave, rfl, fun r => ?regs, fun x => ?specials, intf_leave _, ?flags,
    iack_leave _, by simp⟩
  case regs =>
    by_cases h1 : r = 1#4
    · rw [h1, hr1]
    by_cases h15 : r = 15#4
    · have hsp := (s.enter m).sp_leave
      rw [sp_eq, sp_eq, sp_enter, BitVec.sub_add_cancel] at hsp
      rw [h15, hsp]
    · rw [reg_leave_ne _ _ h1 h15, reg_enter _ _ _ h1 h15]
  case specials =>
    cases x with
    | pc => exact hpc
    | cs => exact hcs
    | ds | ss | is | ia | y => simp [State.special]
  case flags => exact ((s.flagsKept_enter m).trans (flagsKept_leave _)).mono (by simp)

/-! ## The gate (R254) and the boundary (R261, R276) -/

namespace State

variable (s : State)

/-- Single-step comes before the INT line, and whatever that offers is dropped. -/
theorem boundary_armed_of_open (h : s.gateOpen = true) :
    s.boundary true = (s.setHwInt s.hwInt.tail).enter 1#16 := by
  simp [boundary, sampleInt_snd, h]

theorem boundary_unarmed_of_cons {hw : Option Word} {rest : List (Option Word)}
    (h : s.hwInt = hw :: rest) : s.boundary false = (s.setHwInt rest).offer hw := by
  simp [boundary, sampleInt, h]

theorem boundary_unarmed_of_nil (h : s.hwInt = []) : s.boundary false = s := by
  simp [boundary, sampleInt, h]

/-- An entry closes the gate, so the boundary after it only uses its sample of the INT line. -/
theorem boundary_enter (m : Word) (armed : Bool) :
    (s.enter m).boundary armed = (s.enter m).setHwInt s.hwInt.tail := by
  rw [boundary_of_closed _ _ (gateOpen_enter s m), hwInt_enter]

end State

/-- Settles O16: `raise`, `offer` and `boundary` on either side of the gate. -/
theorem requestsAreTakenIffGateIsOpen : Obligations.RequestsAreTakenIffGateIsOpen := by
  refine fun s => ⟨fun hia hif => ?taken, fun hgate => ?dropped⟩
  case taken =>
    have hopen : s.gateOpen = true := s.gateOpen_iff.mpr ⟨hia, hif⟩
    exact ⟨fun m => s.raise_of_open m hopen, fun m => s.offer_of_open m hopen,
      s.boundary_armed_of_open hopen⟩
  case dropped =>
    have hclosed : s.gateOpen = false := s.gateOpen_eq_false_iff.mpr hgate
    exact ⟨fun m => s.raise_of_closed m hclosed, fun hw => s.offer_of_closed hw hclosed,
      fun armed => s.boundary_of_closed armed hclosed⟩

/-- Settles O17: the instruction's own entry closes the gate for the boundary (`boundary_enter`); the
armed boundary does not look at the sample of the INT line; the unarmed one offers it. -/
theorem boundaryTakesAtMostOne : Obligations.BoundaryTakesAtMostOne := by
  intro s m hia hif
  have hopen : s.gateOpen = true := s.gateOpen_iff.mpr ⟨hia, hif⟩
  refine ⟨fun armed => ?own, fun hw rest h => ?step, fun rest h => ?line, fun rest h => ?quiet,
    s.boundary_unarmed_of_nil⟩
  case own => rw [s.raise_of_open m hopen, boundary_enter]
  case step =>
    rw [s.boundary_armed_of_open hopen, h]
    rfl
  case line =>
    rw [s.boundary_unarmed_of_cons h]
    exact offer_of_open _ m hopen
  case quiet => rw [s.boundary_unarmed_of_cons h, offer_none]

/-! ## The step of the awake core (R258, R276) -/

/-- A step at the start of an instruction is the instruction and the end of the step. -/
theorem step_of_fetchInstr {s s1 : State} {i : Instr} (ha : s.asleep = false)
    (hs : s.skipping = false) (hf : s.fetchInstr = .ok (i, s1)) :
    step s = endOutcome s.stepArmed (exec i s1) := by
  simp [step, ha, hs, hf]

/-- Settles O18: single-step is armed by the state before the fetch, and the boundary takes it by the
gate after the instruction. -/
theorem singleStepFollowsWholeInstruction : Obligations.SingleStepFollowsWholeInstruction := by
  intro s s1 t i ha hs hf hexec hskip
  have hstep : step s = .next (t.boundary s.stepArmed) := by
    rw [step_of_fetchInstr ha hs hf, hexec, endOutcome, t.endStep_of_not_skipping _ hskip]
  refine ⟨fun htss hif htia htif => ?taken, fun hunarmed hquiet => ?quiet⟩
  case taken =>
    have harmed : s.stepArmed = true := by simp [State.stepArmed, htss, hif]
    rw [hstep, harmed, t.boundary_armed_of_open (t.gateOpen_iff.mpr ⟨htia, htif⟩)]
    rfl
  case quiet =>
    have hidle : s.stepArmed = false := by
      rcases hunarmed with h | h <;> simp [State.stepArmed, h]
    rw [hstep, hidle, t.boundary_unarmed_of_nil hquiet]

/-! ### The instruction that is fetched (R78, R276) -/

section

variable {s : State}

theorem fetchInstr_oneWord {i : Instr} (hpc : s.pc ≠ 0xFFFF#16) (hw : s.holdsWord s.cs s.pc)
    (hdec : decodeWords (s.peekWord s.cs s.pc) 0#16 = .ok i) (hlen : i.words = 1) :
    s.fetchInstr = .ok (i, s.advancePc) := by
  simp [State.fetchInstr, s.fetch16_of_holdsWord hpc hw, hdec, hlen]

/-- The first word is decoded with 0 behind it, to an instruction `j` that announces the second. -/
theorem fetchInstr_twoWords {i j : Instr} (hpc : s.pc ≠ 0xFFFF#16) (hw : s.holdsWord s.cs s.pc)
    (hfirst : decodeWords (s.peekWord s.cs s.pc) 0#16 = .ok j) (hlen : j.words ≠ 1)
    (hpc' : s.advancePc.pc ≠ 0xFFFF#16) (hw' : s.holdsWord s.advancePc.cs s.advancePc.pc)
    (hdec : decodeWords (s.peekWord s.cs s.pc)
      (s.peekWord s.advancePc.cs s.advancePc.pc) = .ok i) :
    s.fetchInstr = .ok (i, s.advancePc.advancePc) := by
  have hheld : s.advancePc.holdsWord s.advancePc.cs s.advancePc.pc :=
    (s.onlyChanges_advancePc.kept.holdsWord_iff _ _).mpr hw'
  have hpeek : s.advancePc.peekWord s.advancePc.cs s.advancePc.pc =
      s.peekWord s.advancePc.cs s.advancePc.pc := by
    simp [State.peekWord, State.peek]
  simp [State.fetchInstr, s.fetch16_of_holdsWord hpc hw, hfirst, hlen,
    s.advancePc.fetch16_of_holdsWord hpc' hheld, hpeek, hdec]

/-- The fetch inverts the encoder as the decoder does (`decodeInvertsEncode`), by the instruction's
form and its literal. -/
theorem fetchInstr_of_encode {s1 : State} {i : Instr} (hwf : i.wellFormed = true)
    (hpc : s.pc ≠ 0xFFFF#16) (hw : s.holdsWord s.cs s.pc)
    (henc : (encode i)[0]? = some (s.peekWord s.cs s.pc)) (hone : i.words = 1 → s1 = s.advancePc)
    (htwo : i.words = 2 → s.advancePc.pc ≠ 0xFFFF#16 ∧
      s.holdsWord s.advancePc.cs s.advancePc.pc ∧
      (encode i)[1]? = some (s.peekWord s.advancePc.cs s.advancePc.pc) ∧
      s1 = s.advancePc.advancePc) : s.fetchInstr = .ok (i, s1) := by
  cases i.form with
  | plain w hlit hwords hdec =>
    have hlen := Instr.words_of_lit?_none hlit
    rw [hwords] at henc
    obtain rfl : w = s.peekWord s.cs s.pc := by simpa using henc
    rw [hone hlen]
    exact fetchInstr_oneWord hpc hw (hdec _) hlen
  | literal l w hlit hwords hdec =>
    rw [hwords] at henc htwo
    have hfield : w l.field = s.peekWord s.cs s.pc := by simpa using henc
    have hdec' := hdec l.field
    rw [hfield] at hdec'
    cases l with
    | short n =>
      have hlen := Instr.words_of_lit?_short (hlit (.short n))
      have hn : n ≠ 15#4 := by simpa [Instr.wellFormed, hlit, Lit.wellFormed] using hwf
      rw [hone hlen]
      refine fetchInstr_oneWord hpc hw ((hdec' _).trans ?_) hlen
      rw [litOf_field_short n _ hn]
    | ext v =>
      obtain ⟨hpc', hw', hext, rfl⟩ := htwo (Instr.words_of_lit?_ext (hlit _))
      obtain rfl : v = s.peekWord s.advancePc.cs s.advancePc.pc := by simpa [Lit.tail] using hext
      refine fetchInstr_twoWords hpc hw (hdec' 0#16) ?_ hpc' hw'
        ((hdec' _).trans (by rw [litOf_field_ext]))
      rw [litOf_field_ext, Instr.words_of_lit?_ext (hlit _)]
      decide

end

/-- Settles O13: the fetch answers the instruction whose encoding lies at CS:PC, and the step ends as
`exec` of it does. -/
theorem stepRunsDecodedInstruction : Obligations.StepRunsDecodedInstruction := by
  intro s s1 i ha hs hwf hpc hw henc hone htwo
  have hstep := step_of_fetchInstr ha hs (fetchInstr_of_encode hwf hpc hw henc hone htwo)
  refine ⟨fun t h => ?_, fun f h => ?_, fun r h => ?_⟩ <;> rw [hstep, h] <;> rfl

/-! ## The interrupts of the ALU (R257) -/

/-- Settles O33: as in O32 the destination holds free values and DE is set (`divisionError_frame`);
now `divError` takes the interrupt in the state so written. -/
theorem divisionErrorWithTdeEntersWithMessageZero :
    Obligations.DivisionErrorWithTdeEntersWithMessageZero := by
  intro s i r3 htde hia hif
  have hopen : s.gateOpen = true := s.gateOpen_iff.mpr ⟨hia, hif⟩
  refine ⟨fun hi => ?divide, fun hi => ?remainder⟩
  case divide =>
    obtain ⟨q, hexec⟩ : ∃ q, exec i s = .next (s.divide r3 0#16 q) :=
      hi.elim (fun hi => ⟨_, exec_udiv hi⟩) fun hi => ⟨_, exec_div hi⟩
    rw [divide_of_zero, divError_of_taken _ (by exact htde) (by exact hopen)] at hexec
    exact ⟨_, hexec, divisionError_frame ((s.onlyChanges_setY _).trans (onlyChanges_setReg _ r3 _))
      rfl⟩
  case remainder =>
    obtain ⟨m, hexec⟩ : ∃ m, exec i s = .next (s.remainder r3 0#16 m) :=
      hi.elim (fun hi => ⟨_, exec_umod hi⟩) fun hi => ⟨_, exec_mod hi⟩
    rw [remainder_of_zero, divError_of_taken _ (by exact htde) (by exact hopen)] at hexec
    exact ⟨_, hexec, divisionError_frame (s.onlyChanges_setReg r3 _) rfl⟩

/-! ### Overflow (R110, R257) -/

/-- `r` is the outcome of R110 for the exact result `signed` of the signed operands and `wide` of the
unsigned ones, which are the same modulo 2^16: OF and CF say that the one and the other is no word. -/
structure ArithResult.OfExact (r : ArithResult) (signed wide : Int) : Prop where
  value : r.value = BitVec.ofInt 16 signed
  carry : r.carry = true ↔ wide < 0 ∨ 0xFFFF < wide
  overflow : r.overflow = true ↔ signed < -32768 ∨ 32767 < signed

theorem not_fitsSigned_iff (v : Int) : (!fitsSigned v) = true ↔ v < -32768 ∨ 32767 < v := by
  simp only [fitsSigned, Bool.not_eq_true', decide_eq_false_iff_not]
  omega

/-- A word is its signed value modulo 2^16, and its unsigned one. -/
theorem toInt_emod_eq_toNat (a : Word) : a.toInt % 65536 = a.toNat := by
  rw [BitVec.toInt_eq_toNat_cond]
  omega

theorem toInt_eq_natCast_toNat (b : Bool) : b.toInt = b.toNat := by cases b <;> rfl

theorem addCore_ofExact (a b : Word) (cin : Bool) : (addCore a b cin).OfExact
    (a.toInt + b.toInt + cin.toInt) (a.toNat + b.toNat + cin.toNat) where
  value := by
    have ha := toInt_emod_eq_toNat a
    have hb := toInt_emod_eq_toNat b
    have hcin := toInt_eq_natCast_toNat cin
    apply BitVec.eq_of_toNat_eq
    simp only [addCore, BitVec.toNat_ofNat, BitVec.toNat_ofInt]
    omega
  carry := by
    simp only [addCore, decide_eq_true_eq]
    omega
  overflow := not_fitsSigned_iff _

theorem subCore_ofExact (a b : Word) (bin : Bool) : (subCore a b bin).OfExact
    (a.toInt - b.toInt - bin.toInt) (a.toNat - b.toNat - bin.toNat) where
  value := by
    have ha := toInt_emod_eq_toNat a
    have hb := toInt_emod_eq_toNat b
    apply BitVec.eq_of_toNat_eq
    simp only [subCore, BitVec.toNat_ofInt]
    omega
  carry := by
    have hbin := toInt_eq_natCast_toNat bin
    simp only [subCore, decide_eq_true_eq]
    omega
  overflow := not_fitsSigned_iff _

section
variable {s : State} {i : Instr} {r3 : Reg} {b : Word}

theorem exec_add (hi : OperandForm s (fun r2 => .addReg r2 r3) (fun l => .addLit l r3) i b) :
    exec i s = .next (s.finishArith r3 (addCore (s.reg r3) b false)) :=
  hi.exec_eq (fun b => s.finishArith r3 (addCore (s.reg r3) b false)) (fun _ => rfl) (fun _ => rfl)

theorem exec_sub (hi : OperandForm s (fun r2 => .subReg r2 r3) (fun l => .subLit l r3) i b) :
    exec i s = .next (s.finishArith r3 (subCore (s.reg r3) b false)) :=
  hi.exec_eq (fun b => s.finishArith r3 (subCore (s.reg r3) b false)) (fun _ => rfl) (fun _ => rfl)

theorem exec_subb (hi : OperandForm s (fun r2 => .subbReg r2 r3) (fun l => .subbLit l r3) i b) :
    exec i s = .next (s.finishArith r3 (subCore (s.reg r3) b (s.flag .cf))) :=
  hi.exec_eq (fun b => s.finishArith r3 (subCore (s.reg r3) b (s.flag .cf))) (fun _ => rfl)
    (fun _ => rfl)

end

theorem State.onlyChanges_arithWritten (s : State) (r3 : Reg) (r : ArithResult) :
    OnlyChanges [r3] [.cf, .ovf] [] s (s.arithWritten r3 r) :=
  ((s.onlyChanges_setReg r3 r.value).trans (onlyChanges_setFlag _ .cf r.carry)).trans
    (onlyChanges_setFlag _ .ovf r.overflow)

@[simp] theorem State.reg_arithWritten_same (s : State) (r3 : Reg) (r : ArithResult) :
    (s.arithWritten r3 r).reg r3 = r.value :=
  reg_setReg_same ..

@[simp] theorem State.cf_arithWritten (s : State) (r3 : Reg) (r : ArithResult) :
    (s.arithWritten r3 r).flag .cf = r.carry := by
  simp [arithWritten]

@[simp] theorem State.ovf_arithWritten (s : State) (r3 : Reg) (r : ArithResult) :
    (s.arithWritten r3 r).flag .ovf = r.overflow := by
  simp [arithWritten]

/-- Settles O28: each of the four finishes with the outcome of R110 for its operands; as that
overflows, `finishArith` takes the interrupt after `arithWritten`, the result, CF and OF. -/
theorem overflowWithToeEntersWithMessageFour : Obligations.OverflowWithToeEntersWithMessageFour := by
  intro s i r3 b signed wide hi hovf htoe hia hif
  obtain ⟨r, hexec, hvalue, hcarry, hoverflow⟩ :
      ∃ r, exec i s = .next (s.finishArith r3 r) ∧ r.OfExact signed wide := by
    rcases hi with ⟨hi, rfl, rfl⟩ | ⟨r2, rfl, rfl, rfl, rfl⟩ | ⟨hi, rfl, rfl⟩ | ⟨hi, rfl, rfl⟩
    · exact ⟨_, exec_add hi, by simpa using addCore_ofExact (s.reg r3) b false⟩
    · exact ⟨_, rfl, addCore_ofExact ..⟩
    · exact ⟨_, exec_sub hi, by simpa using subCore_ofExact (s.reg r3) b false⟩
    · exact ⟨_, exec_subb hi, subCore_ofExact ..⟩
  have ho : r.overflow = true := hoverflow.mpr hovf
  rw [s.finishArith_of_taken r3 r ho htoe (s.gateOpen_iff.mpr ⟨hia, hif⟩)] at hexec
  refine ⟨s.arithWritten r3 r, hexec, ?_, ?_, ?_, s.onlyChanges_arithWritten r3 r⟩
  · rw [reg_arithWritten_same, hvalue]
  · rw [cf_arithWritten, hcarry]
  · rw [ovf_arithWritten, ho]

end Sys2Proof.Machine
end

section
/-! PROOFS, claims about every step: memory keeps its canonical form, and the parameters are kept
(20_memory.md, 00_scope.md R8); the enable bits and the reserved bits of FLAGS are SETFLAGS's
(10_state.md R18). -/

namespace Sys2Proof.Machine

open State

/-! ## The canonical form of memory

That the parameters are kept is one half of `OnlyRamChanges.step`; the other half of O54 goes
through the parts of a step in the same way. -/

/-- If memory has its canonical form in `s`, it has it in `t`. -/
def CanonicalKept (s t : State) : Prop := s.mem.wf = true → t.mem.wf = true

namespace CanonicalKept

theorem of_mem_eq {s t : State} (hmem : t.mem = s.mem) : CanonicalKept s t := fun hw => by
  rwa [hmem]

variable {s t u : State}

theorem trans (h : CanonicalKept s t) (h' : CanonicalKept t u) : CanonicalKept s u := h' ∘ h

theorem endStep (armed : Bool) : CanonicalKept s (s.endStep armed) := by
  rcases s.endStep_cases armed with e | e <;> rw [e]
  · exact of_mem_eq rfl
  · exact s.wf_boundary armed

theorem fetchInstr {i : Instr} (h : s.fetchInstr = .ok (i, t)) : CanonicalKept s t := by
  obtain ⟨-, -, hmem, -⟩ := s.fetchInstr_kept h
  exact of_mem_eq hmem

theorem skipChain {fuel : Nat} (h : State.skipChain fuel s = .next t) : CanonicalKept s t := by
  obtain ⟨-, -, hmem, -⟩ := s.skipChain_kept fuel h
  exact of_mem_eq hmem

theorem conditional {b : Bool} (h : s.conditional b = .next t) : CanonicalKept s t := by
  cases b with
  | true => cases h; exact of_mem_eq rfl
  | false => exact skipChain h

/-- The instructions that write memory do it by stores, by pushes or by the entry of the interrupt
they raise, each of which writes inside the memory space; the others leave memory as it is. -/
theorem exec {i : Instr} (h : exec i s = .next t) : CanonicalKept s t := by
  cases i with
  | storeLit | storeReg => cases h; exact s.wf_writeWord _ _ _
  | storeBLit | storeBReg => cases h; exact s.wf_writeByte _ _ (phys_lt _ _)
  | push => cases h; exact s.wf_push16 _
  | callAbs | callRel => cases h; exact s.wf_push16 _
  | lcall => cases h; exact fun hw => wf_push16 _ _ (s.wf_push16 _ hw)
  | addReg | addLit | addc | subReg | subLit | subbReg | subbLit =>
    cases h; exact s.wf_finishArith _ _
  | udivReg | udivLit | divReg | divLit => cases h; exact s.wf_divide _ _ _
  | umodReg | umodLit | modReg | modLit => cases h; exact s.wf_remainder _ _ _
  | intReg | intLit => cases h; exact s.wf_raise _
  | beqReg | beqLit | bneqReg | bneqLit | bgReg | bgLit | bgeReg | bgeLit | bugReg | bugLit
  | bugeReg | bugeLit | bbits | bclear | bovf | bocf => exact conditional h
  | setflags r =>
    simp only [Machine.exec, execSetflags] at h
    split at h
    · cases h
    · cases h; exact of_mem_eq rfl
  | pop r => cases (s.execPop_eq r).symm.trans h; exact of_mem_eq (by simp)
  | ret => cases s.execRet_eq.symm.trans h; exact of_mem_eq (by simp)
  | lret => cases s.execLret_eq.symm.trans h; exact of_mem_eq (by simp)
  | _ => cases h; exact of_mem_eq (by simp)

theorem step (h : step s = .next t) : CanonicalKept s t := by
  rcases s.step_cases h with ⟨-, rfl⟩ | ⟨-, -, u, hu, rfl⟩ | ⟨-, -, i, s1, u, hf, hu, rfl⟩
  · exact s.wf_sleepStep
  · have hclear : CanonicalKept s (s.setSkipping false) := of_mem_eq rfl
    exact (hclear.trans (skipChain hu)).trans (endStep _)
  · exact ((fetchInstr hf).trans (exec hu)).trans (endStep _)

end CanonicalKept

/-- Settles O54: every part of a step keeps the canonical form (`CanonicalKept.step`) and the
parameters (`OnlyRamChanges.step`). -/
theorem stepKeepsCanonicalMemory : Obligations.StepKeepsCanonicalMemory :=
  fun _ _ hw h => ⟨CanonicalKept.step h hw, (OnlyRamChanges.step h).cfg⟩

/-! ## The enable bits and the reserved bits of FLAGS (R18)

CF, OF, DE and IF are the bits that instructions other than SETFLAGS and interrupts write; every
other bit of FLAGS is bit 4 or above. -/

/-- The flags that the machine writes by itself. -/
def statusFlags : List Flag := [.cf, .ovf, .de, .intf]

theorem bit_lt_four_of_mem_statusFlags {f : Flag} (h : f ∈ statusFlags) : f.bit < 4 := by
  have hall : ∀ f ∈ statusFlags, f.bit < 4 := by decide
  exact hall f h

/-- From `s` to `t` no bit of FLAGS changes but CF, OF, DE and IF. -/
def EnablesKept (s t : State) : Prop := FlagsKept statusFlags s t

namespace EnablesKept

theorem of_flags_eq {s t : State} (h : t.flags = s.flags) : EnablesKept s t := FlagsKept.of_flags_eq h

variable {s t u : State}

theorem trans (h : EnablesKept s t) (h' : EnablesKept t u) : EnablesKept s u :=
  (FlagsKept.trans h h').mono (by simp)

theorem setFlag (f : Flag) (b : Bool) (hf : f ∈ statusFlags) : EnablesKept s (s.setFlag f b) :=
  (s.onlyChanges_setFlag f b).flags.mono (by simpa using hf)

theorem enter (m : Word) : EnablesKept s (s.enter m) :=
  (s.flagsKept_enter m).mono (by simp [statusFlags])

theorem leave : EnablesKept s s.leave := s.flagsKept_leave.mono (by simp [statusFlags])

theorem raise (m : Word) : EnablesKept s (s.raise m) := by
  rcases s.raise_cases m with e | e <;> rw [e]
  · exact of_flags_eq rfl
  · exact enter m

theorem sleepStep : EnablesKept s s.sleepStep := by
  rcases s.sleepStep_cases with e | ⟨m, e⟩ <;> rw [e]
  · exact of_flags_eq rfl
  · exact (of_flags_eq (by rfl)).trans (enter m)

theorem boundary (armed : Bool) : EnablesKept s (s.boundary armed) := by
  rcases s.boundary_cases armed with e | ⟨m, e⟩ <;> rw [e]
  · exact of_flags_eq rfl
  · exact (of_flags_eq (by rfl)).trans (enter m)

theorem endStep (armed : Bool) : EnablesKept s (s.endStep armed) := by
  rcases s.endStep_cases armed with e | e <;> rw [e]
  · exact of_flags_eq rfl
  · exact boundary armed

theorem finishArith (r3 : Reg) (r : ArithResult) : EnablesKept s (s.finishArith r3 r) := by
  have hwritten : EnablesKept s (s.arithWritten r3 r) :=
    (s.onlyChanges_arithWritten r3 r).flags.mono (by simp [statusFlags])
  rcases s.finishArith_cases r3 r with e | e <;> rw [e]
  · exact hwritten
  · exact hwritten.trans (enter _)

theorem divError : EnablesKept s s.divError := by
  have hde : EnablesKept s (s.setFlag .de true) := setFlag .de true (by simp [statusFlags])
  rcases s.divError_cases with e | e <;> rw [e]
  · exact hde
  · exact hde.trans (enter _)

theorem divide (r3 : Reg) (b : Word) (q : BitVec 32) : EnablesKept s (s.divide r3 b q) := by
  by_cases hb : b = 0#16
  · rw [hb, divide_of_zero]
    exact (of_flags_eq (by rfl)).trans divError
  · rw [divide_of_ne _ _ _ _ hb]
    exact (of_flags_eq (by rfl)).trans (setFlag .de false (by simp [statusFlags]))

theorem remainder (r3 : Reg) (b m : Word) : EnablesKept s (s.remainder r3 b m) := by
  by_cases hb : b = 0#16
  · rw [hb, remainder_of_zero]
    exact (of_flags_eq (by rfl)).trans divError
  · rw [remainder_of_ne _ _ _ _ hb]
    exact (of_flags_eq (by rfl)).trans (setFlag .de false (by simp [statusFlags]))

theorem finishShift (r3 : Reg) (v : Word) (c : Bool) : EnablesKept s (s.finishShift r3 v c) :=
  (s.onlyChanges_finishShift r3 v c).flags.mono (by simp [statusFlags])

theorem fetchInstr {i : Instr} (h : s.fetchInstr = .ok (i, t)) : EnablesKept s t := by
  obtain ⟨-, hflags, -⟩ := s.fetchInstr_kept h
  exact of_flags_eq hflags

theorem skipChain {fuel : Nat} (h : State.skipChain fuel s = .next t) : EnablesKept s t := by
  obtain ⟨-, hflags, -⟩ := s.skipChain_kept fuel h
  exact of_flags_eq hflags

theorem conditional {b : Bool} (h : s.conditional b = .next t) : EnablesKept s t := by
  cases b with
  | true => cases h; exact of_flags_eq rfl
  | false => exact skipChain h

/-- The instructions but SETFLAGS that write FLAGS at all are those of the ALU with a carry, an
overflow or a division error, and those that take or leave an interrupt. -/
theorem exec {i : Instr} (h : exec i s = .next t) (hi : ∀ r, i ≠ .setflags r) : EnablesKept s t := by
  cases i with
  | setflags r => exact absurd rfl (hi r)
  | addReg | addLit | addc | subReg | subLit | subbReg | subbLit => cases h; exact finishArith _ _
  | udivReg | udivLit | divReg | divLit => cases h; exact divide _ _ _
  | umodReg | umodLit | modReg | modLit => cases h; exact remainder _ _ _
  | sllReg | sllLit | srlReg | srlLit | sraReg | sraLit => cases h; exact finishShift _ _ _
  | intReg | intLit => cases h; exact raise _
  | rfi => cases h; exact leave
  | beqReg | beqLit | bneqReg | bneqLit | bgReg | bgLit | bgeReg | bgeLit | bugReg | bugLit
  | bugeReg | bugeLit | bbits | bclear | bovf | bocf => exact conditional h
  | pop r => cases (s.execPop_eq r).symm.trans h; exact of_flags_eq (by simp)
  | ret => cases s.execRet_eq.symm.trans h; exact of_flags_eq (by simp)
  | lret => cases s.execLret_eq.symm.trans h; exact of_flags_eq (by simp)
  | _ => cases h; exact of_flags_eq (by simp)

theorem step (h : step s = .next t) (hi : ∀ r s1, s.fetchInstr ≠ .ok (.setflags r, s1)) :
    EnablesKept s t := by
  rcases s.step_cases h with ⟨-, rfl⟩ | ⟨-, -, u, hu, rfl⟩ | ⟨-, -, i, s1, u, hf, hu, rfl⟩
  · exact sleepStep
  · have hclear : EnablesKept s (s.setSkipping false) := of_flags_eq rfl
    exact (hclear.trans (skipChain hu)).trans (endStep _)
  · have hexec : EnablesKept s1 u := exec hu fun r e => hi r s1 (e ▸ hf)
    exact ((fetchInstr hf).trans hexec).trans (endStep _)

end EnablesKept

/-- Settles O57: a step that does not run SETFLAGS writes CF, OF, DE and IF at most
(`EnablesKept.step`), which are below bit 4. -/
theorem enableBitsChangeOnlyBySetflags : Obligations.EnableBitsChangeOnlyBySetflags := by
  intro s t k h hi h4 hk
  refine EnablesKept.step h hi k hk fun f hf => ?_
  have := bit_lt_four_of_mem_statusFlags hf
  omega

end Sys2Proof.Machine
end

section
/-! PROOFS, the words that are no instruction (30_encoding.md R87): which they are, and that a step
refuses to execute or to skip one. -/

namespace Sys2Proof

/-! ## The words that decode to nothing

Each table of the decoder has no row for the opcodes that R87 lists in its range. -/

section

variable {w x : Word}

theorem decodeP0_error_iff : (∃ e, decodeP0 w = .error e) ↔
    w.toNat ∉ [0x0000, 0x0001, 0x0002, 0x0003, 0x0004, 0x0008, 0x0009] := by
  unfold decodeP0
  split
  case h_8 => split <;> simp_all
  all_goals
    next hw => simp [hw]

theorem decodeL9_error_iff {op : Nat} {l9 : BitVec 9} (hlo : 0x08 ≤ op) (hhi : op < 0x10) :
    (∃ e, decodeL9 op l9 w = .error e) ↔ 0x0A ≤ op := by
  unfold decodeL9
  split
  case h_3 => simp only [Except.error.injEq, exists_eq', true_iff]; grind
  all_goals simp

theorem decodeP1_error_iff {op : Nat} {f3 : BitVec 4} (hlo : 0x200 ≤ op) :
    (∃ e, decodeP1 op f3 w x = .error e) ↔ 0x21D ≤ op := by
  unfold decodeP1
  split
  case h_30 => split <;> simp only [Except.error.injEq, exists_eq', true_iff] <;> grind
  all_goals simp

theorem decodeP2_error_iff {op : Nat} {f2 r3 : BitVec 4} (hlo : 0x40 ≤ op) (hhi : op < 0x80) :
    (∃ e, decodeP2 op f2 r3 w x = .error e) ↔ 0x75 ≤ op ∧ op ≤ 0x7B := by
  unfold decodeP2
  split
  case h_58 => simp only [Except.error.injEq, exists_eq', true_iff]; grind
  all_goals simp

end

end Sys2Proof

namespace Sys2Proof.Machine

open State

/-- The words of R87, by the range the word lies in: each of its lists is in the range of one
format. -/
theorem decodeWords_error_iff (w x : Word) :
    (∃ e, decodeWords w x = .error e) ↔ NoInstruction w := by
  have hw := w.isLt
  unfold NoInstruction
  rcases lt_or_ge w.toNat 0x1000 with hP0 | hP0
  · rw [decodeWords_P0 hP0, decodeP0_error_iff]
    refine ⟨fun h => .inr (.inr (.inr ⟨by omega, h⟩)), fun h => ?_⟩
    rcases h with h | h | h | ⟨-, h⟩
    · omega
    · omega
    · omega
    · exact h
  rcases lt_or_ge w.toNat 0x2000 with hL9 | hL9
  · have hop := toNat_field w 9 7
    rw [decodeWords_L9 hP0 hL9, decodeL9_error_iff (by omega) (by omega)]
    omega
  rcases lt_or_ge w.toNat 0x4000 with hP1 | hP1
  · have hop := toNat_field w 4 12
    rw [decodeWords_P1 hL9 hP1, decodeP1_error_iff (by omega)]
    omega
  rcases lt_or_ge w.toNat 0x8000 with hP2 | hP2
  · have hop := toNat_field w 8 8
    rw [decodeWords_P2 hP1 hP2, decodeP2_error_iff (by omega) (by omega)]
    omega
  · rw [decodeWords_P3 hP2]
    simp only [reduceCtorEq, exists_false, false_iff]
    omega

/-! ## A word that is no instruction, executed or skipped -/

namespace State

variable (s : State)

/-! The mark of a skip on its way has no part in what a read answers. -/

theorem answer_setSkipping (b : Bool) :
    (s.setSkipping b).answer = Prod.map id (·.setSkipping b) s.answer := by
  unfold State.answer
  rw [devIn_setSkipping]
  cases s.devIn <;> rfl

theorem readByte_setSkipping (b : Bool) (p : Nat) :
    (s.setSkipping b).readByte p = Prod.map id (·.setSkipping b) (s.readByte p) := by
  unfold State.readByte
  rw [kind_setSkipping, answer_setSkipping]
  cases s.kind p <;> rfl

theorem readWord_setSkipping_fst (b : Bool) (seg off : Word) :
    ((s.setSkipping b).readWord seg off).1 = (s.readWord seg off).1 := by
  simp [State.readWord, readByte_setSkipping]

end State

section

variable {s u : State}

theorem fetchInstr_of_noInstruction (hpc : s.pc ≠ 0xFFFF#16)
    (hno : NoInstruction (s.readWord s.cs s.pc).1) :
    ∃ e, s.fetchInstr = .error (.reservedWord e) := by
  obtain ⟨e, he⟩ := (decodeWords_error_iff _ 0#16).mpr hno
  exact ⟨e, by simp [State.fetchInstr, s.fetch16_of_ne hpc, he]⟩

theorem skipInstr_of_noInstruction (hpc : s.pc ≠ 0xFFFF#16)
    (hno : NoInstruction (s.readWord s.cs s.pc).1) :
    ∃ e, s.skipInstr = .error (.reservedWord e) := by
  obtain ⟨e, he⟩ := (decodeWords_error_iff _ 0#16).mpr hno
  exact ⟨e, by simp [State.skipInstr, s.fetch16_of_ne hpc, he]⟩

/-- A skip with fuel for all the conditional instructions in front of the word, and one more, comes
to it and is refused. -/
theorem skipChain_of_noInstruction {n fuel : Nat} (h : PassesConditionals n s u) (hn : n < fuel)
    (hpc : u.pc ≠ 0xFFFF#16) (hno : NoInstruction (u.readWord u.cs u.pc).1) :
    ∃ e, State.skipChain fuel s = .refused (.reservedWord e) := by
  obtain ⟨d, rfl⟩ := Nat.exists_eq_add_of_lt hn
  obtain ⟨e, he⟩ := skipInstr_of_noInstruction hpc hno
  exact ⟨e, by rw [Nat.add_assoc, skipChain_of_passesConditionals h, skipChain_succ, he]⟩

/-- A step that goes on with a skip and comes to such a word is refused. -/
theorem step_of_noInstruction_in_skip {n : Nat} (ha : s.asleep = false) (hs : s.skipping = true)
    (h : PassesConditionals n (s.setSkipping false) u) (hn : n < 2 ^ 20) (hpc : u.pc ≠ 0xFFFF#16)
    (hno : NoInstruction (u.readWord u.cs u.pc).1) :
    ∃ e, step s = .refused (.reservedWord e) := by
  obtain ⟨e, he⟩ := skipChain_of_noInstruction h (hn.trans_eq skipFuel_eq.symm) hpc hno
  exact ⟨e, by rw [step_of_skipping ha hs, he, endOutcome]⟩

/-- An awake core with such a word at CS:PC is refused, whether it stands at the start of an
instruction or goes on with a skip. -/
theorem step_of_noInstruction (ha : s.asleep = false) (hpc : s.pc ≠ 0xFFFF#16)
    (hno : NoInstruction (s.readWord s.cs s.pc).1) : ∃ e, step s = .refused (.reservedWord e) := by
  cases hs : s.skipping with
  | true =>
    refine step_of_noInstruction_in_skip ha hs (.none _) (by decide) hpc ?_
    rw [readWord_setSkipping_fst]
    exact hno
  | false =>
    obtain ⟨e, he⟩ := fetchInstr_of_noInstruction hpc hno
    exact ⟨e, by simp [step, ha, hs, he]⟩

theorem run_of_step_refused {r : Refusal} (h : step s = .refused r) (k : Nat) :
    core.run (k + 1) s = .refused r := by
  have general (M : Host.Core) (a : M.State) (r : M.Refusal) (h : M.step a = .refused r) :
      M.run (k + 1) a = .refused r := by simp only [Host.Core.run, h]
  exact general core s r h

/-- A skip on its way comes to a word `n` conditional instructions ahead in the step after the
`n / 2^20` steps that pass 2^20 of them each. -/
theorem run_of_noInstruction {n : Nat} (ha : s.asleep = false) (hs : s.skipping = true)
    (h : PassesConditionals n (s.setSkipping false) u) (hpc : u.pc ≠ 0xFFFF#16)
    (hno : NoInstruction (u.readWord u.cs u.pc).1) :
    ∃ e, core.run (n / 2 ^ 20 + 1) s = .refused (.reservedWord e) := by
  induction hk : n / 2 ^ 20 generalizing s n with
  | zero =>
    obtain ⟨e, he⟩ := step_of_noInstruction_in_skip ha hs h (by omega) hpc hno
    exact ⟨e, run_of_step_refused he 0⟩
  | succ k ih =>
    obtain ⟨m, rfl⟩ : ∃ m, n = 2 ^ 20 + m := Nat.exists_eq_add_of_le (by omega)
    obtain ⟨v, hfst, hsnd⟩ := h.split
    have hkept := (SkipFrame.of_passesConditionals hfst).kept
    have hv : (v.setSkipping true).setSkipping false = v := setSkipping_eq_self hkept.skipping
    rw [s.run_of_step (step_of_passesConditionals ha hs hfst)]
    exact ih (s := v.setSkipping true) (hkept.asleep.trans ha) rfl (by rwa [hv]) (by omega)

end

/-- Settles O4: the words by the tables of the decoder (`decodeWords_error_iff`); the refusals
because the fetch and the skip decode the word at CS:PC. -/
theorem reservedWordsAreExactlyRefused : Obligations.ReservedWordsAreExactlyRefused := by
  refine ⟨decodeWords_error_iff, fun s ha hpc hno => step_of_noInstruction ha hpc hno,
    fun s u i P n htest hP hn h hpc hno => ?_,
    fun s u n ha hs h hpc hno => run_of_noInstruction ha hs h hpc hno⟩
  rw [htest.exec_of_not hP]
  exact skipChain_of_noInstruction h (hn.trans_eq skipFuel_eq.symm) hpc hno

end Sys2Proof.Machine
end

section
/-! PROOFS, the state before the first step (70_reset_and_hazards.md R290, R291): what reset leaves,
and the initial state with the image of MEM_INIT. -/

namespace Sys2Proof.Machine

/-- Settles O55 by evaluation: the reset state is a closed term, and its list of known bytes is
empty. -/
theorem resetLeavesCoreAwakeAndMemoryUnknown : Obligations.ResetLeavesCoreAwakeAndMemoryUnknown :=
  ⟨rfl, rfl, rfl, State.wf_reset, fun _ => rfl⟩

/-- An image without repeats leaves each of its bytes at its address: no later byte of it is placed
there. -/
theorem Memory.lookup_place_of_mem {m : Memory} {image : List Host.Cell} {c : Host.Cell}
    (hnodup : (image.map Prod.fst).Nodup) (hc : c ∈ image) :
    (m.place image).lookup c.1 = some c.2 := by
  induction image generalizing m with
  | nil => cases hc
  | cons d image ih =>
    rw [List.map_cons, List.nodup_cons] at hnodup
    obtain ⟨hd, hnodup⟩ := hnodup
    rw [place_cons]
    rcases List.mem_cons.mp hc with rfl | hc
    · have hlater : ∀ e ∈ image, e.1 ≠ c.1 := fun e he h => hd (h ▸ List.mem_map_of_mem he)
      rw [lookup_place_of_not_mem _ _ _ hlater, lookup_write, if_pos rfl]
    · exact ih hnodup hc

/-- Settles O60: memory is the image placed in the empty memory (`Memory.lookup_place_of_mem`,
`Memory.lookup_place_of_not_mem`), and the registers are those of the reset state, which O7 says are
0. -/
theorem initialStateHoldsTheImageAndNothingElse :
    Obligations.InitialStateHoldsTheImageAndNothingElse := by
  intro c image ioDev hwInt s hlt hnodup hs
  rw [State.initial_eq] at hs
  subst hs
  refine ⟨fun p hp => ?known, fun a ha => ?unknown, Memory.wf_place _ _ hlt State.wf_reset,
    fun r => resetClearsEveryRegister.1 r, fun x => ?specials, rfl, rfl, rfl, rfl, rfl, rfl, rfl,
    rfl⟩
  case known =>
    have hlookup : (Memory.place [] image).lookup p.1 = some p.2 :=
      Memory.lookup_place_of_mem hnodup hp
    exact ⟨hlookup, by simp [Memory.read, hlookup]⟩
  case unknown =>
    exact Memory.lookup_place_of_not_mem _ _ a fun d hd h => ha (h ▸ List.mem_map_of_mem hd)
  case specials => cases x <;> rfl

end Sys2Proof.Machine
end

section
/-! PROOFS, the arithmetic of 41_alu.md: sums and differences without an interrupt (R110 to R114),
the products (R115, R116) and the remainders (R120, R121). -/

namespace Sys2Proof.Machine

open State

/-! ## Sums and differences (R110 to R114)

Each instruction finishes with the outcome of R110 for its operands. Where no interrupt is taken,
`finishArith` is `arithWritten`: the value, CF and OF. -/

/-- The hypothesis of the two statements, on the outcome. -/
theorem finishArith_of_no_interrupt {s : State} {r : ArithResult} {signed wide : Int} (r3 : Reg)
    (hr : r.OfExact signed wide)
    (h : ¬(signed < -32768 ∨ 32767 < signed) ∨ s.flag .toe = false ∨ s.ia = 0#16 ∨
      s.flag .intf = true) : s.finishArith r3 r = s.arithWritten r3 r := by
  refine s.finishArith_of_not_taken r3 r (h.imp (fun hfits => ?_) (Or.imp_right fun hgate => ?_))
  · exact Bool.eq_false_iff.mpr (mt hr.overflow.mp hfits)
  · exact s.gateOpen_eq_false_iff.mpr hgate

theorem toNat_addCore (a b : Word) (cin : Bool) :
    (addCore a b cin).value.toNat = (a.toNat + b.toNat + cin.toNat) % 2 ^ 16 := rfl

theorem toNat_subCore (a b : Word) (bin : Bool) :
    ((subCore a b bin).value.toNat : Int) = (a.toNat - b.toNat - bin.toNat : Int) % 2 ^ 16 := by
  rw [← toInt_eq_natCast_toNat bin]
  simp only [subCore, BitVec.toNat_ofInt]
  omega

/-- Settles O26 by `addCore_ofExact`, ADD being the sum with no carry. -/
theorem addGivesSumCarryAndOverflow : Obligations.AddGivesSumCarryAndOverflow := by
  intro s i r3 b cin hi hquiet
  obtain ⟨c, rfl, hexec⟩ : ∃ c : Bool, cin = c.toNat ∧
      exec i s = .next (s.finishArith r3 (addCore (s.reg r3) b c)) := by
    rcases hi with ⟨hi, rfl⟩ | ⟨r2, rfl, rfl, rfl⟩
    · exact ⟨false, rfl, exec_add hi⟩
    · exact ⟨_, rfl, rfl⟩
  have hexact := addCore_ofExact (s.reg r3) b c
  rw [toInt_eq_natCast_toNat] at hexact
  rw [finishArith_of_no_interrupt r3 hexact hquiet] at hexec
  refine ⟨_, hexec, ?value, ?carry, ?overflow, s.onlyChanges_arithWritten r3 _⟩
  case value => rw [reg_arithWritten_same, toNat_addCore]
  case carry =>
    rw [cf_arithWritten, hexact.carry]
    omega
  case overflow => rw [ovf_arithWritten, hexact.overflow]

/-- Settles O27 by `subCore_ofExact`, SUB being the difference with no borrow. -/
theorem subGivesDifferenceBorrowAndOverflow : Obligations.SubGivesDifferenceBorrowAndOverflow := by
  intro s i r3 b bin hi hquiet
  obtain ⟨c, rfl, hexec⟩ : ∃ c : Bool, bin = c.toNat ∧
      exec i s = .next (s.finishArith r3 (subCore (s.reg r3) b c)) := by
    rcases hi with ⟨hi, rfl⟩ | ⟨hi, rfl⟩
    · exact ⟨false, rfl, exec_sub hi⟩
    · exact ⟨_, rfl, exec_subb hi⟩
  have hexact := subCore_ofExact (s.reg r3) b c
  rw [toInt_eq_natCast_toNat] at hexact
  rw [finishArith_of_no_interrupt r3 hexact hquiet] at hexec
  refine ⟨_, hexec, ?value, ?carry, ?overflow, s.onlyChanges_arithWritten r3 _⟩
  case value => rw [reg_arithWritten_same, toNat_subCore]
  case carry =>
    rw [cf_arithWritten, hexact.carry]
    omega
  case overflow => rw [ovf_arithWritten, hexact.overflow]

/-! ## Products (R115, R116) -/

/-- The unsigned product of two words fits 32 bits. -/
theorem toNat_ofNat_mul (a b : Word) :
    (BitVec.ofNat 32 (a.toNat * b.toNat)).toNat = a.toNat * b.toNat := by
  have hlt : a.toNat * b.toNat < 2 ^ 16 * 2 ^ 16 := Nat.mul_lt_mul'' a.isLt b.isLt
  rw [BitVec.toNat_ofNat, Nat.mod_eq_of_lt (by omega)]

/-- The signed product of two words fits 32 bits. -/
theorem toInt_ofInt_mul (a b : Word) :
    (BitVec.ofInt 32 (a.toInt * b.toInt)).toInt = a.toInt * b.toInt := by
  have hle := BitVec.toInt_mul_toInt_le (x := a) (y := b)
  have hge := BitVec.le_toInt_mul_toInt (x := a) (y := b)
  exact BitVec.toInt_ofInt_eq_self (by decide) (by omega) (by omega)

/-- Settles O29: the product is written whole (`y_append_reg_setYReg`) and is the exact one. -/
theorem multiplyIsExactAcrossYAndReg : Obligations.MultiplyIsExactAcrossYAndReg := by
  intro s i r3 b
  refine ⟨fun hi => ?unsigned, fun hi => ?signed⟩
  case unsigned =>
    refine ⟨_, hi.exec_eq (fun b => s.setYReg r3 (BitVec.ofNat 32 ((s.reg r3).toNat * b.toNat)))
      (fun _ => rfl) (fun _ => rfl), ?_, s.onlyChanges_setYReg r3 _⟩
    rw [← toNat_append_eq, y_append_reg_setYReg, toNat_ofNat_mul]
  case signed =>
    refine ⟨_, hi.exec_eq (fun b => s.setYReg r3 (BitVec.ofInt 32 ((s.reg r3).toInt * b.toInt)))
      (fun _ => rfl) (fun _ => rfl), ?_, s.onlyChanges_setYReg r3 _⟩
    rw [y_append_reg_setYReg, toInt_ofInt_mul]

/-! ## Remainders (R120, R121) -/

/-- The unsigned remainder is less than the divisor, so it fits a word. -/
theorem toNat_urem (d : BitVec 32) {b : Word} (hb : b ≠ 0#16) :
    (urem d b).toNat = d.toNat % b.toNat := by
  have hlt : d.toNat % b.toNat < b.toNat := Nat.mod_lt _ (BitVec.toNat_pos_of_ne_zero hb)
  exact Nat.mod_eq_of_lt (hlt.trans b.isLt)

/-- The signed remainder is less than the divisor in size, so it fits a word. -/
theorem toInt_srem (d : BitVec 32) {b : Word} (hb : b ≠ 0#16) :
    (srem d b).toInt = d.toInt.tmod b.toInt := by
  have hpos : 0 < b.toInt.natAbs := Int.natAbs_pos.mpr fun h => hb (BitVec.eq_of_toInt_eq h)
  have hlt : (d.toInt.tmod b.toInt).natAbs < b.toInt.natAbs := by
    rw [Int.natAbs_tmod]
    exact Nat.mod_lt _ hpos
  have hlo := BitVec.le_toInt b
  have hhi := BitVec.toInt_lt (x := b)
  exact BitVec.toInt_ofInt_eq_self (by decide) (by omega) (by omega)

/-- What a remainder by a divisor that is not 0 leaves, whichever the remainder. -/
theorem remainder_frame_of_ne (s : State) (r3 : Reg) {b : Word} (m : Word) (hb : b ≠ 0#16) :
    (s.remainder r3 b m).reg r3 = m ∧ (s.remainder r3 b m).flag .de = false ∧
      OnlyChanges [r3] [.de] [] s (s.remainder r3 b m) := by
  rw [remainder_of_ne _ _ _ _ hb]
  exact ⟨reg_setReg_same .., by simp,
    (s.onlyChanges_setReg r3 m).trans (onlyChanges_setFlag _ .de false)⟩

/-- Settles O31: the remainder stands in the register (`remainder_frame_of_ne`), and it is the exact
one (`toNat_urem`, `toInt_srem`). -/
theorem remainderKeepsY : Obligations.RemainderKeepsY := by
  intro s i r3 b hb
  refine ⟨fun hi => ?unsigned, fun hi => ?signed⟩
  case unsigned =>
    obtain ⟨hm, hframe⟩ := remainder_frame_of_ne s r3 (urem (s.dividend r3) b) hb
    refine ⟨_, exec_umod hi, ?_, hframe⟩
    rw [hm, toNat_urem _ hb, State.dividend, toNat_append_eq]
  case signed =>
    obtain ⟨hm, hframe⟩ := remainder_frame_of_ne s r3 (srem (s.dividend r3) b) hb
    refine ⟨_, exec_mod hi, ?_, hframe⟩
    rw [hm, toInt_srem _ hb, State.dividend]

end Sys2Proof.Machine
end

section
/-! PROOFS, the stack: what a push and the pop after it do (20_memory.md R50, R51), and the
instructions that push or pop (44_jump.md R191, R193, R195, 45_stack.md R205, R206,
47_interrupt_instr.md R223). -/

namespace Sys2Proof.Machine

open State

/-! ## A push and its pop (R50, R51) -/

/-- Fewer addresses left open say more of memory, and their order does not count. -/
theorem MemKeptOutside.mono {as bs : List Nat} {s t : State} (h : MemKeptOutside as s t)
    (hs : as ⊆ bs) : MemKeptOutside bs s t := fun a ha => h a (mt (@hs a) ha)

namespace State

variable (s : State) (v : Word)

theorem peek_push16_lower (h : s.ramWord s.ss (s.sp - 2#16)) :
    (s.push16 v).peek s.ss (s.sp - 2#16) = s.lowerStackByte v := by
  rw [State.peek, read_push16, if_pos ⟨rfl, h.1⟩]

theorem peek_push16_upper (h : s.ramWord s.ss (s.sp - 2#16)) :
    (s.push16 v).peek s.ss (s.sp - 1#16) = s.upperStackByte v := by
  obtain ⟨-, hupper⟩ := h
  rw [sub_two_add_one] at hupper
  have hne := stack_bytes_ne s.ss s.sp
  rw [State.peek, read_push16, if_neg fun e => hne e.1.symm, if_pos ⟨rfl, hupper⟩]

/-- The two addresses of a pushed word, in ascending order as the statements list them. -/
theorem memKeptOutside_push16_ascending :
    MemKeptOutside [phys s.ss (s.sp - 2#16), phys s.ss (s.sp - 1#16)] s (s.push16 v) :=
  (s.memKeptOutside_push16 v).mono (by simp)

theorem flagsKept_push16 : FlagsKept [] s (s.push16 v) := .of_flags_eq (s.flags_push16 v)

/-- After a push SP points to the word that was pushed. -/
theorem holdsWord_push16 (h : s.ramWord s.ss (s.sp - 2#16)) :
    (s.push16 v).holdsWord (s.push16 v).ss (s.push16 v).sp := by
  rw [(s.kept_push16 v).holdsWord_iff, ss_push16, sp_push]
  exact h.holds

/-- The pop after a push answers the word pushed. -/
theorem pop16_push16_fst (h : s.ramWord s.ss (s.sp - 2#16)) : (s.push16 v).pop16.1 = v := by
  rw [pop16_of_holdsWord _ (s.holdsWord_push16 v h), sp_push]
  exact s.stackWord_push16 v h

end State

/-- Settles O10: `lowerStackByte` is the low byte or the high one as STACK_BYTE_ORDER says, and
`upperStackByte` the other. -/
theorem pushPlacesBothBytes : Obligations.PushPlacesBothBytes := by
  intro s v h
  refine ⟨s.sp_push v, fun horder => ?_, fun horder => ?_, s.memKeptOutside_push16_ascending v,
    s.kept_push16 v, s.flagsKept_push16 v, s.envKept_push16_ram v h⟩ <;>
  · rw [s.peek_push16_lower v h, s.peek_push16_upper v h, lowerStackByte, upperStackByte, horder]
    exact ⟨rfl, rfl⟩

/-- Settles O11: the word comes back (`pop16_push16_fst`), and of the registers neither the push nor
the pop writes another than SP, from which the push takes what the pop adds. -/
theorem popReturnsWhatPushWrote : Obligations.PopReturnsWhatPushWrote := by
  intro s v h
  have hkept : Kept [15] [] s (s.push16 v).pop16.2 := (s.kept_push16 v).trans_same (kept_pop16 _)
  exact ⟨s.pop16_push16_fst v h,
    hkept.of_restored (by simp) (by simp), .of_flags_eq (by simp),
    (s.envKept_push16_ram v h).trans (envKept_pop16_of_holdsWord _ (s.holdsWord_push16 v h))⟩

/-! ## PUSH and POP (R205, R206) -/

/-- Settles O53: PUSH is one `push16` of the register's value, and POP one `pop16` and then one
`setReg`. -/
theorem pushAndPopMoveOneWord : Obligations.PushAndPopMoveOneWord := by
  intro s r3
  refine ⟨⟨_, rfl, s.sp_push _, fun h => ⟨s.stackWord_push16 _ h, s.envKept_push16_ram _ h⟩,
      s.memKeptOutside_push16_ascending _, s.kept_push16 _, s.flagsKept_push16 _⟩,
    ⟨_, s.execPop_eq r3, reg_setReg_same .., fun hr => ?sp, fun h => ?word, ?kept,
      .of_flags_eq (by simp), fun a => by simp⟩⟩
  case sp => exact (reg_setReg_ne _ _ _ _ hr.symm).trans s.sp_pop16
  case word =>
    rw [reg_setReg_same]
    exact ⟨congrArg Prod.fst (s.pop16_of_holdsWord h),
      (s.envKept_pop16_of_holdsWord h).trans (onlyChanges_setReg _ r3 _).env⟩
  case kept =>
    exact (s.kept_pop16.trans (onlyChanges_setReg _ r3 _).kept).mono (by simp) (by simp)

/-! ## The calls (R191, R193, R195) -/

namespace State

variable (s : State)

theorem memKeptOutside_callNear (target : Word) :
    MemKeptOutside [phys s.ss (s.sp - 2#16), phys s.ss (s.sp - 1#16)] s (s.callNear target) :=
  s.memKeptOutside_push16_ascending s.pc

theorem memKeptOutside_callFar_ascending (c target : Word) :
    MemKeptOutside [phys s.ss (s.sp - 4#16), phys s.ss (s.sp - 3#16), phys s.ss (s.sp - 2#16),
      phys s.ss (s.sp - 1#16)] s (s.callFar c target) :=
  (s.memKeptOutside_callFar c target).mono (by simp)

end State

/-- What either CALL does, whatever its target. -/
theorem callNear_frame (s : State) (target : Word) :
    (s.callNear target).pc = target ∧ (s.callNear target).sp = s.sp - 2#16 ∧
      (s.ramWord s.ss (s.sp - 2#16) →
        (s.callNear target).stackWord (s.sp - 2#16) = s.pc ∧ EnvKept s (s.callNear target)) ∧
      MemKeptOutside [phys s.ss (s.sp - 2#16), phys s.ss (s.sp - 1#16)] s (s.callNear target) ∧
      Kept [15] [.pc] s (s.callNear target) ∧ FlagsKept [] s (s.callNear target) :=
  ⟨rfl, s.sp_callNear target,
    fun h => ⟨s.stackWord_callNear target h, s.envKept_callNear target h⟩,
    s.memKeptOutside_callNear target, s.kept_callNear target, s.flagsKept_callNear target⟩

/-- Settles O50: both forms of CALL are `callNear` to the target of R191 or R193, and LCALL is
`callFar` to that of R195. -/
theorem callsPushReturnAddress : Obligations.CallsPushReturnAddress := by
  intro s l r2 r3 off
  obtain ⟨habs, habsFrame⟩ := callNear_frame s (s.absTarget l r3)
  obtain ⟨hrel, hrelFrame⟩ := callNear_frame s (BitVec.ofInt 16 (s.pc.toNat + displacement off))
  refine ⟨⟨_, s.exec_callAbs l r3, ?abs, habsFrame⟩, ⟨_, s.exec_callRel off, ?rel, hrelFrame⟩,
    ⟨_, s.exec_lcall r2 r3, rfl, rfl, s.sp_callFar _ _, fun hcs hpc => ?words,
      s.memKeptOutside_callFar_ascending _ _, s.kept_callFar _ _, s.flagsKept_callFar _ _⟩⟩
  case abs =>
    rw [habs]
    exact BitVec.toNat_add ..
  case rel =>
    rw [hrel, BitVec.toNat_ofInt, displacement]
    omega
  case words =>
    exact ⟨s.stackWord_callFar_cs _ _ hcs, s.stackWord_callFar_pc _ _ hpc,
      s.envKept_callFar _ _ hcs hpc⟩

/-! ## RFI (R223) -/

/-- RFI from RAM or ROM is no access to a device: none of its three pops is. -/
theorem State.envKept_leave (s : State) (h0 : s.holdsWord s.ss s.sp)
    (h2 : s.holdsWord s.ss (s.sp + 2#16)) (h4 : s.holdsWord s.ss (s.sp + 4#16)) :
    EnvKept s s.leave := by
  obtain ⟨t, hexec, -, hsp, hwords, hkept, -, -⟩ := (returnsPopTheirTarget s).2
  obtain ⟨-, -, henv⟩ := hwords h0 h2
  have hss : t.ss = s.ss := hkept.specials .ss (by simp)
  have hr1 : t.holdsWord t.ss t.sp := by rwa [hkept.holdsWord_iff, hss, hsp]
  rw [s.leave_eq_of_lret hexec]
  exact henv.trans (t.envKept_pop16_of_holdsWord hr1)

/-- Settles O20: the three words by `leave_pops`, and one rule for each field that RFI keeps. -/
theorem rfiPopsPcCsAndR1 : Obligations.RfiPopsPcCsAndR1 := by
  intro s h0 h2 h4
  obtain ⟨hpc, hcs, hr1⟩ := s.leave_pops h0 h2 h4
  refine ⟨s.leave, rfl, hpc, hcs, hr1, s.sp_leave, s.intf_leave, s.iack_leave, s.flagsKept_leave,
    s.reg_leave_ne, fun x hxpc hxcs => ?specials, s.asleep_leave, s.cfg_leave, s.hwInt_leave,
    s.skipping_leave, fun a => by rw [mem_leave], s.envKept_leave h0 h2 h4⟩
  case specials =>
    cases x with
    | pc => exact absurd rfl hxpc
    | cs => exact absurd rfl hxcs
    | ds | ss | is | ia | y => simp [State.special]

end Sys2Proof.Machine
end

section
/-! PROOFS, single instructions: LOAD.B (40_ram.md R102), the tests that hold (42_branch.md R160),
JMP relative (44_jump.md R192), SLEEP and SETFLAGS (46_special.md R211, R213), INT
(47_interrupt_instr.md R220), INP and OUT (48_io.md R230, R231), the segment register moves
(49_segment.md R235 to R242), and the sleeping core (46_special.md R211). -/

namespace Sys2Proof.Machine

open State

/-! ## LOAD.B (R102) -/

/-- The word that LOAD.B writes for the byte `v` it has read (D16). -/
def State.loadedWord (s : State) (r3 : Reg) (v : Byte) : Word :=
  match s.cfg.loadbUpper with
  | .preserve => joinBytes (hiByte (s.reg r3)) v
  | .zero => joinBytes 0#8 v

theorem State.loByte_loadedWord (s : State) (r3 : Reg) (v : Byte) :
    loByte (s.loadedWord r3 v) = v := by
  unfold loadedWord
  cases s.cfg.loadbUpper <;> exact loByte_joinBytes ..

theorem State.loadByte_eq (s : State) (r1 r3 : Reg) (b : Word) : s.loadByte r1 b r3 =
    (s.readByte (phys (s.dataSeg r1) (s.dataOff r1 b))).2.setReg r3
      (s.loadedWord r3 (s.readByte (phys (s.dataSeg r1) (s.dataOff r1 b))).1) := by
  unfold loadByte loadedWord
  cases s.cfg.loadbUpper <;> rfl

/-- LOAD.B at its effective address SEG:off, in either form of its index. -/
theorem exec_loadByte {s : State} {i : Instr} {r1 r3 : Reg} {b seg off : Word}
    (hseg : seg = if r1 = 14#4 ∨ r1 = 15#4 then s.ss else s.ds)
    (hoff : off.toNat = ((s.reg r1).toNat + b.toNat) % 2 ^ 16)
    (hi : OperandForm s (fun r2 => .loadBReg r1 r2 r3) (fun l => .loadBLit r1 l r3) i b) :
    exec i s = .next ((s.readByte (phys seg off)).2.setReg r3
      (s.loadedWord r3 (s.readByte (phys seg off)).1)) := by
  obtain rfl := dataOff_eq_of_toNat hoff
  rw [hi.exec_eq (fun b => s.loadByte r1 b r3) (fun _ => rfl) (fun _ => rfl), s.loadByte_eq, hseg]
  rfl

theorem State.kept_readByte (s : State) (p : Nat) : Kept [] [] s (s.readByte p).2 where
  regs r _ := s.reg_readByte p r
  specials x _ := by cases x <;> simp [State.special]
  asleep := by simp
  iack := by simp
  cfg := by simp
  hwInt := by simp
  skipping := by simp

/-- Settles O23: LOAD.B is one `readByte` at SEG:off and one `setReg` of the `loadedWord`
(`exec_loadByte`). -/
theorem loadByteReadsOneByte : Obligations.LoadByteReadsOneByte := by
  intro s i r1 r3 b seg off hi hseg hoff
  have hwrite := onlyChanges_setReg (s.readByte (phys seg off)).2 r3
  refine ⟨_, exec_loadByte hseg hoff hi, ?low, fun hc => ?preserve, fun hc => ?zero,
    (hwrite _).env, (s.kept_readByte _).trans (hwrite _).kept, .of_flags_eq (by simp),
    fun a => by simp, fun h => ?held⟩
  case low =>
    rw [reg_setReg_same]
    exact s.loByte_loadedWord ..
  case preserve =>
    rw [reg_setReg_same, loadedWord, hc]
    exact hiByte_joinBytes ..
  case zero =>
    rw [reg_setReg_same, loadedWord, hc]
    exact hiByte_joinBytes ..
  case held =>
    rw [s.readByte_of_holds _ h, reg_setReg_same]
    exact ⟨s.loByte_loadedWord .., rfl, rfl, rfl⟩

/-! ## A test that holds (R160) -/

/-- Settles O43: every conditional instruction is `conditional` of the truth of its test. -/
theorem testThatHoldsChangesNothing : Obligations.TestThatHoldsChangesNothing := by
  intro s i P htest hP
  obtain ⟨b, hb, hexec⟩ := htest.exec_eq
  rw [hexec, hb.mpr hP, conditional_true]

/-! ## JMP relative (R192) -/

/-- CS after a relative jump whose target is `target` bytes from the start of the segment. -/
def State.jumpSegment (s : State) (target : Int) : Word :=
  if 0xFFFF < target then s.cs + 1#16 else if target < 0 then s.cs - 1#16 else s.cs

theorem State.exec_jmpRel (s : State) (off : BitVec 9) : exec (.jmpRel off) s =
    .next ((s.setCs (s.jumpSegment (s.pc.toNat + off.toInt))).setPc
      (BitVec.ofInt 16 (s.pc.toNat + off.toInt))) := by
  simp only [exec, execJmpRel, jumpRel, jumpSegment]
  change Host.Outcome.next (if 0xFFFF < s.pc.toNat + off.toInt then _ else
    if s.pc.toNat + off.toInt < 0 then _ else _) = _
  split_ifs <;> rfl

/-- Settles O49: PC is the target modulo 2^16, which the displacement takes at most one segment
away, and CS follows (`exec_jmpRel`). -/
theorem relativeJumpCrossesSegments : Obligations.RelativeJumpCrossesSegments := by
  intro s off
  have hpc : ((BitVec.ofInt 16 (s.pc.toNat + off.toInt)).toNat : Int) =
      (s.pc.toNat + off.toInt) % 0x10000 := by
    rw [BitVec.toNat_ofInt]
    omega
  have hlt := s.pc.isLt
  have hlo := BitVec.le_toInt off
  have hhi := BitVec.toInt_lt (x := off)
  refine ⟨_, s.exec_jmpRel off, fun h => ⟨hpc.trans (by omega), ?next⟩,
    fun h => ⟨hpc.trans (by omega), ?previous⟩, fun h h' => ⟨hpc.trans (by omega), ?same⟩,
    s.onlyChanges_setCs_setPc _ _⟩
  case next => exact if_pos h
  case previous => exact (if_neg (by omega)).trans (if_pos h)
  case same => exact (if_neg (by omega)).trans (if_neg (by omega))

/-! ## SLEEP and SETFLAGS (R211, R213) -/

theorem State.kept_setFlags (s : State) (v : Word) : Kept [] [] s (s.setFlags v) where
  regs _ _ := rfl
  specials x _ := by cases x <;> rfl
  asleep := rfl
  iack := rfl
  cfg := rfl
  hwInt := rfl
  skipping := rfl

/-- Settles O41: SLEEP is one `setAsleep`; SETFLAGS is one `setFlags`, or refused where the
parameter and the reserved bits say so. -/
theorem sleepAndSetflags : Obligations.SleepAndSetflags := by
  intro s r3
  refine ⟨⟨_, rfl, rfl, rfl⟩, fun hstored => ?store, fun hrefused => ?refuse⟩
  case store =>
    have hnot : ¬(s.cfg.reservedFlags = .refuse ∧ s.reg r3 &&& reservedFlagsMask ≠ 0#16) := by
      rintro ⟨hrefuse, hset⟩
      rcases hstored with hstore | hclear
      · rw [hstore] at hrefuse
        cases hrefuse
      · exact hset hclear
    exact ⟨s.setFlags (s.reg r3), if_neg hnot, rfl, s.kept_setFlags _, fun _ => rfl, rfl, rfl, rfl⟩
  case refuse => exact if_pos hrefused

/-! ## INT (R220) -/

theorem exec_int {s : State} {i : Instr} {m : Word} (hi : OperandForm s .intReg .intLit i m) :
    exec i s = .next (s.raise m) :=
  hi.exec_eq s.raise (fun _ => rfl) (fun _ => rfl)

/-- Settles O21: INT is `raise`, on either side of the gate. -/
theorem intIsTakenOrDropped : Obligations.IntIsTakenOrDropped := by
  intro s i m hi
  rw [exec_int hi]
  refine ⟨fun hia hif => ?taken, fun hgate => ?dropped⟩
  case taken =>
    rw [s.raise_of_open m (s.gateOpen_iff.mpr ⟨hia, hif⟩)]
    exact ⟨_, rfl, rfl, s.reg_one_enter m, s.pc_enter m, s.cs_enter m⟩
  case dropped => rw [s.raise_of_closed m (s.gateOpen_eq_false_iff.mpr hgate)]

/-! ## INP and OUT (R230, R231) -/

/-- The port is the operand's low eight bits (20_memory.md R53). -/
theorem portOf_eq_extractLsb' (b : Word) : portOf b = b.extractLsb' 0 8 := by
  apply BitVec.eq_of_toNat_eq
  simp [portOf, BitVec.extractLsb'_toNat]

namespace State

variable (s : State)

/-- The environment answers with the next word of its script, or from beyond its end. -/
theorem answer_of_cons {v : Word} {rest : List Word} (h : s.devIn = v :: rest) :
    s.answer = (v, s.setDevIn rest) := by
  simp [State.answer, h]

theorem answer_of_nil (h : s.devIn = []) :
    s.answer = (Config.freeWord s.draws, s.addDraws 1) := by
  simp [State.answer, h]

theorem kept_ioRead (port : Port) : Kept [] [] s (s.ioRead port).2 where
  regs r _ := s.reg_ioRead port r
  specials x _ := by cases x <;> simp [State.special]
  asleep := by simp
  iack := by simp
  cfg := by simp
  hwInt := by simp
  skipping := by simp

theorem kept_ioWrite (port : Port) (v : Word) : Kept [] [] s (s.ioWrite port v) where
  regs r _ := s.reg_ioWrite port v r
  specials x _ := by cases x <;> simp [State.special]
  asleep := by simp
  iack := by simp
  cfg := by simp
  hwInt := by simp
  skipping := by simp

end State

/-- Settles O46: INP is one `ioRead`, which is one `answer` and its entry in the log, and one
`setReg` of the answer. -/
theorem inpReadsPortOnce : Obligations.InpReadsPortOnce := by
  intro s i r3 b hi
  have hwrite := onlyChanges_setReg (s.ioRead (portOf b)).2 r3 (s.ioRead (portOf b)).1
  refine ⟨_, hi.exec_eq (s.inp r3) (fun _ => rfl) (fun _ => rfl), ?log, fun v rest h => ?answered,
    fun h => ?beyond, (s.kept_ioRead _).trans hwrite.kept, .of_flags_eq (by simp),
    fun a => by simp⟩
  case log => simp [State.inp, State.ioRead, portOf_eq_extractLsb']
  case answered => simp [State.inp, State.ioRead, s.answer_of_cons h]
  case beyond => simp [State.inp, State.ioRead, s.answer_of_nil h, h]

/-- Settles O47: OUT is one `ioWrite`. -/
theorem outWritesPortOnce : Obligations.OutWritesPortOnce := by
  intro s i r3 b hi
  refine ⟨_, hi.exec_eq (fun b => s.ioWrite (portOf b) (s.reg r3)) (fun _ => rfl) (fun _ => rfl),
    ?log, s.kept_ioWrite _ _, .of_flags_eq (by simp), fun a => by simp, by simp, by simp⟩
  case log =>
    rw [portOf_eq_extractLsb']
    rfl

/-! ## The segment register moves (R235 to R242) -/

/-- The write of a register that has no number. -/
def State.setSpecial (s : State) (v : Word) : Special → State
  | .pc => s.setPc v
  | .cs => s.setCs v
  | .ds => s.setDs v
  | .ss => s.setSs v
  | .is => s.setIs v
  | .ia => s.setIa v
  | .y => s.setY v

theorem State.special_setSpecial (s : State) (v : Word) (x z : Special) :
    (s.setSpecial v x).special z = if z = x then v else s.special z := by
  cases x <;> cases z <;> rfl

theorem State.onlyChanges_setSpecial (s : State) (v : Word) (x : Special) :
    OnlyChanges [] [] [x] s (s.setSpecial v x) where
  kept :=
    { regs := fun _ _ => by cases x <;> rfl
      specials := fun z hz => by rw [special_setSpecial, if_neg (List.ne_of_not_mem_cons hz)]
      asleep := by cases x <;> rfl
      iack := by cases x <;> rfl
      cfg := by cases x <;> rfl
      hwInt := by cases x <;> rfl
      skipping := by cases x <;> rfl }
  flags := .of_flags_eq (by cases x <;> rfl)
  mem _ := by cases x <;> rfl
  env := by cases x <;> exact ⟨rfl, rfl, rfl⟩

/-- An instruction both forms of which write their operand to such a register writes nothing else.
-/
theorem writesOnlySpecial_of_forms {s : State} {i : Instr} {b : Word} {reg : Reg → Instr}
    {lit : Lit → Instr} (x : Special) (hi : OperandForm s reg lit i b)
    (hreg : ∀ r, exec (reg r) s = .next (s.setSpecial (s.reg r) x))
    (hlit : ∀ l, exec (lit l) s = .next (s.setSpecial (litValue l) x)) :
    ∃ t, exec i s = .next t ∧ t.special x = b ∧ OnlyChanges [] [] [x] s t :=
  ⟨_, hi.exec_eq (s.setSpecial · x) hreg hlit, by rw [special_setSpecial, if_pos rfl],
    s.onlyChanges_setSpecial b x⟩

/-- Settles O42: each SET writes its operand to its register (`writesOnlySpecial_of_forms`), and
each GET is one `setReg` (`writesOnlyReg_of_exec`). -/
theorem segmentMovesWriteOnlyTheirTarget : Obligations.SegmentMovesWriteOnlyTheirTarget := by
  intro s r3 i b
  exact ⟨fun hi => writesOnlySpecial_of_forms .cs hi (fun _ => rfl) (fun _ => rfl),
    fun hi => writesOnlySpecial_of_forms .ds hi (fun _ => rfl) (fun _ => rfl),
    fun hi => writesOnlySpecial_of_forms .ss hi (fun _ => rfl) (fun _ => rfl),
    fun hi => writesOnlySpecial_of_forms .is hi (fun _ => rfl) (fun _ => rfl),
    writesOnlyReg_of_exec rfl, writesOnlyReg_of_exec rfl, writesOnlyReg_of_exec rfl,
    writesOnlyReg_of_exec rfl⟩

/-! ## The sleeping core (R211) -/

theorem step_of_asleep {s : State} (ha : s.asleep = true) : step s = .next s.sleepStep := by
  simp [step, ha]

theorem State.sleepStep_of_cons (s : State) {hw : Option Word} {rest : List (Option Word)}
    (h : s.hwInt = hw :: rest) : s.sleepStep = (s.setHwInt rest).offer hw := by
  simp [sleepStep, sampleInt, h]

theorem State.sleepStep_of_nil (s : State) (h : s.hwInt = []) : s.sleepStep = s := by
  simp [sleepStep, sampleInt, h]

theorem State.sleepStep_of_closed (s : State) (h : s.gateOpen = false) :
    s.sleepStep = s.setHwInt s.hwInt.tail := by
  have h' : (s.setHwInt s.hwInt.tail).gateOpen = false := h
  simp [sleepStep, sampleInt_snd, offer_of_closed _ _ h']

/-- Settles O14: the step of the sleeping core is `sleepStep`, by its sample of the INT line and by
the gate. -/
theorem sleepingCoreWakesOnlyOnTakenInterrupt :
    Obligations.SleepingCoreWakesOnlyOnTakenInterrupt := by
  intro s ha
  rw [step_of_asleep ha]
  refine ⟨fun m rest h hia hif => ?taken, fun rest h => ?quiet, fun h => ?silent,
    fun hgate => ?gated⟩
  case taken =>
    have hopen : (s.setHwInt rest).gateOpen = true := s.gateOpen_iff.mpr ⟨hia, hif⟩
    rw [s.sleepStep_of_cons h, offer_of_open _ m hopen]
    exact ⟨_, rfl, rfl, asleep_enter _ m⟩
  case quiet => rw [s.sleepStep_of_cons h, offer_none]
  case silent => rw [s.sleepStep_of_nil h]
  case gated => rw [s.sleepStep_of_closed (s.gateOpen_eq_false_iff.mpr hgate)]

end Sys2Proof.Machine
end
